-- ==== Sys2Proof/Word.lean ====
section
/-! DEFINITION. The words the spec carries: bytes on a port, seq values and wrapping counters. -/

namespace Sys2Proof

/-- One byte on a serial port or in the store image (R133, R157). -/
abbrev Byte := BitVec 8

/-- The sequence number of an entry: 0..65535, wrapping (R34). -/
abbrev SeqNo := BitVec 16

/-- A 32-bit counter that wraps (R16, R33, R59, R68). -/
abbrev Count32 := BitVec 32

end Sys2Proof
end

