-- ==== Sys2Proof/Syntax.lean ====
section
/-! DEFINITION. The commands of the TC-460: one constructor of `Instr` for each row of spec/opcode_table.json, and
the names (lanes, ports, line levels) that their operands use. -/

namespace Sys2Proof

/-- The four lanes (00_scope.md, Terms). -/
inductive Lane where
  | a | b | c | d
deriving DecidableEq, Repr

/-- The six serial ports P0 to P5 (00_scope.md, Conventions). -/
inductive Port where
  | p0 | p1 | p2 | p3 | p4 | p5
deriving DecidableEq, Repr

/-- The electrical level of an input line. -/
inductive Level where
  | low | high
deriving DecidableEq, Repr

/-- A byte received on a port. `lateGap` says that more than 2 ms passed since the byte before it (R133). -/
structure RxByte where
  byte : Byte
  lateGap : Bool
deriving DecidableEq, Repr

/-- The commands, one for each row of the table. A request command names the port whose queue hands the request on:
its tag and its parameters stand in the frame at the front of that queue (R136, R144). -/
inductive Instr where
  /-- PULSE (R2): a rising edge of ODA, with the level of ODB at that edge. -/
  | pulse (odb : Level)
  /-- ACTIVE_EDGE (R17, R21): SDET changes from inactive to active. -/
  | activeEdge
  /-- INACTIVE_EDGE (R17, R22): SDET changes from active to inactive. -/
  | inactiveEdge
  /-- TDN_LINE_CHANGE (R74): TDNx changes to the level given. -/
  | tdnLineChange (x : Lane) (level : Level)
  /-- ASSERTION (R74): the debounce time of lane x runs out with the line active. -/
  | assertion (x : Lane)
  /-- RELEASE (R75): the debounce time of lane x runs out with the line inactive. -/
  | release (x : Lane)
  /-- DOWN_TIMER_EXPIRY (R76): the down timer of lane x reaches the down limit. -/
  | downTimerExpiry (x : Lane)
  /-- LIFT_TIMER_EXPIRY (R99): the lift timer reaches the lift timeout. -/
  | liftTimerExpiry
  /-- OVERDUE_TIMER_EXPIRY (R101): the overdue timer reaches the hold overdue. -/
  | overdueTimerExpiry
  /-- PRESENCE_TIMER_EXPIRY (R137): the presence timer of port p reaches the presence interval. -/
  | presenceTimerExpiry (p : Port)
  /-- VALID_FRAME (R133, R135): the bytes of a frame with this body arrive on port p, with no gap and the right CRC. -/
  | validFrame (p : Port) (body : List Byte)
  /-- DISCARDED_FRAME (R133): bytes arrive on port p that make no valid frame. -/
  | discardedFrame (p : Port) (bytes : List RxByte)
  /-- UNKNOWN_CODE (R139). -/
  | unknownCode (p : Port)
  /-- PRESENT (R137). -/
  | present (p : Port)
  /-- READ STATE (R151). -/
  | readState (p : Port)
  /-- READ EVENTS (R149). -/
  | readEvents (p : Port)
  /-- EVENT MASK (R148). -/
  | eventMask (p : Port)
  /-- STATUS INTERVAL (R150). -/
  | statusInterval (p : Port)
  /-- STATUS_TIMER_EXPIRY (R150): the status timer of port p reaches its status interval. -/
  | statusTimerExpiry (p : Port)
  /-- READ ENTRY (R46). -/
  | readEntry (p : Port)
  /-- READ REGISTER (R47). -/
  | readRegister (p : Port)
  /-- READ PASSAGES (R63). -/
  | readPassages (p : Port)
  /-- READ COUNTERS (R152). -/
  | readCounters (p : Port)
  /-- READ SETTING (R156). -/
  | readSetting (p : Port)
  /-- READ FAULT (R85). -/
  | readFault (p : Port)
  /-- FREEZE (R128). -/
  | freeze (p : Port)
  /-- KEY (R141). -/
  | key (p : Port)
  /-- ANNOTATE (R39 to R41). -/
  | annotate (p : Port)
  /-- PLACE (R42 to R44). -/
  | place (p : Port)
  /-- STRIKE (R45). -/
  | strike (p : Port)
  /-- TAKE PASSAGES (R64). -/
  | takePassages (p : Port)
  /-- HOLD TAKE (R96 to R98). -/
  | holdTake (p : Port)
  /-- HOLD SET (R100). -/
  | holdSet (p : Port)
  /-- HOLD DROP (R102, R103). -/
  | holdDrop (p : Port)
  /-- HOLD CLEAR (R104). -/
  | holdClear (p : Port)
  /-- CLAIM (R77, R78). -/
  | claim (p : Port)
  /-- FINISH (R79). -/
  | finish (p : Port)
  /-- WAIVE (R80). -/
  | waive (p : Port)
  /-- ADOPT (R81). -/
  | adopt (p : Port)
  /-- CLEAR LANE (R82). -/
  | clearLane (p : Port)
  /-- MOVE (R113, R114). -/
  | move (p : Port)
  /-- STOP (R115). -/
  | stop (p : Port)
  /-- SET (R155). -/
  | set (p : Port)
  /-- SET ROLES (R140). -/
  | setRoles (p : Port)
  /-- THAW (R129, R130). -/
  | thaw (p : Port)
  /-- SAVE (R157). -/
  | save (p : Port)
  /-- SAVE_WRITE_COMPLETE (R157): the write of the store image completes. -/
  | saveWriteComplete
  /-- RELOAD (R158). -/
  | reload (p : Port)
  /-- RESTART (R160). -/
  | restart (p : Port)
  /-- RESTART_TAKES_EFFECT (R160). -/
  | restartTakesEffect
  /-- FLUSH (R56). -/
  | flush (p : Port)
  /-- AXIS PRESET (R11, R12). -/
  | axisPreset (p : Port)
  /-- FRZIN_ASSERTION (R127): FRZIN goes active (low). -/
  | frzinAssertion
  /-- FRZIN_RELEASE (R127): FRZIN goes inactive (high). -/
  | frzinRelease
  /-- RSTN_ASSERTION (R159): RSTN goes active (low). -/
  | rstnAssertion
  /-- FULL_RESET (R159): RSTN is released, or power is established. -/
  | fullReset
  /-- FRAME_SENT (R136): the frame being sent on port p ends. -/
  | frameSent (p : Port)
deriving DecidableEq, Repr

end Sys2Proof
end

