-- ==== Sys2Proof/Decode.lean ====
section
/-! DEFINITION. The command that a word spells. No row of spec/opcode_table.json gives bits: the part fetches no words,
its commands are events and frames. So no word spells a command. -/

namespace Sys2Proof

/-- The command of an `nbits`-bit word: none, for every word. -/
def decodeTableWord (_nbits _w : Nat) : Option Instr := none

end Sys2Proof
end

