-- ==== Sys2Proof/Config.lean ====
section
/-! DEFINITION. What the spec leaves open: the free values. Each is an opaque constant with no body, applied to the
counter `freeCount` of State; nothing in Lean can evaluate it, so a theorem holds whatever it is. -/

namespace Sys2Proof.Config

/-- The order in which timers that come due at one moment are taken. "Either may be taken first" (R92, R109, R121,
R131, R137): no rule gives an order. DESIGN CHOICE (log 5), safe. -/
opaque arrivalOrder : Nat → List Instr

/-- Whether a waiting status frame goes out before a waiting response. "A status frame and a response that are ready
together go out one after the other, in either order" (R136). DESIGN CHOICE (log 6), safe. -/
opaque statusFirst : Nat → Bool

/-- Whether an AXIS PRESET that arrives together with an edge is taken before the candidate of that edge is offered.
"Either may be taken first" (R13). DESIGN CHOICE (log 26), safe. -/
opaque presetFirst : Nat → Bool

/-- Whether a candidate whose edge takes the axis after a pulse is offered before that pulse's retirement. It "meets the
retirement in either order" (R31). DESIGN CHOICE (log 31), safe. -/
opaque offerFirst : Nat → Bool

end Sys2Proof.Config
end

