-- ==== Sys2Proof/Machine/State.lean ====
section
/-! DEFINITION. The state of the TC-460 as plain data, block by block as 00_scope.md lists them, the reasons a step can
stop, and the state right after a full reset. -/

namespace Sys2Proof

/-- One value for each lane. -/
structure PerLane (α : Type) where
  a : α
  b : α
  c : α
  d : α
deriving DecidableEq, Repr

/-- One value for each port. -/
structure PerPort (α : Type) where
  p0 : α
  p1 : α
  p2 : α
  p3 : α
  p4 : α
  p5 : α
deriving DecidableEq, Repr

namespace PerLane

variable {α β : Type}

def get (v : PerLane α) : Lane → α
  | .a => v.a
  | .b => v.b
  | .c => v.c
  | .d => v.d

def set (v : PerLane α) (x : Lane) (y : α) : PerLane α :=
  match x with
  | .a => { v with a := y }
  | .b => { v with b := y }
  | .c => { v with c := y }
  | .d => { v with d := y }

def modify (v : PerLane α) (x : Lane) (f : α → α) : PerLane α := v.set x (f (v.get x))

def ofFn (f : Lane → α) : PerLane α := ⟨f .a, f .b, f .c, f .d⟩

def map (f : α → β) (v : PerLane α) : PerLane β := ⟨f v.a, f v.b, f v.c, f v.d⟩

def replicate (y : α) : PerLane α := ⟨y, y, y, y⟩

def toList (v : PerLane α) : List α := [v.a, v.b, v.c, v.d]

end PerLane

/-- The lanes in the order A to D. -/
def Lane.all : List Lane := [.a, .b, .c, .d]

namespace PerPort

variable {α β : Type}

def get (v : PerPort α) : Port → α
  | .p0 => v.p0
  | .p1 => v.p1
  | .p2 => v.p2
  | .p3 => v.p3
  | .p4 => v.p4
  | .p5 => v.p5

def set (v : PerPort α) (p : Port) (y : α) : PerPort α :=
  match p with
  | .p0 => { v with p0 := y }
  | .p1 => { v with p1 := y }
  | .p2 => { v with p2 := y }
  | .p3 => { v with p3 := y }
  | .p4 => { v with p4 := y }
  | .p5 => { v with p5 := y }

def modify (v : PerPort α) (p : Port) (f : α → α) : PerPort α := v.set p (f (v.get p))

def ofFn (f : Port → α) : PerPort α := ⟨f .p0, f .p1, f .p2, f .p3, f .p4, f .p5⟩

def map (f : α → β) (v : PerPort α) : PerPort β := ⟨f v.p0, f v.p1, f v.p2, f v.p3, f v.p4, f v.p5⟩

def replicate (y : α) : PerPort α := ⟨y, y, y, y, y, y⟩

def toList (v : PerPort α) : List α := [v.p0, v.p1, v.p2, v.p3, v.p4, v.p5]

end PerPort

/-- The ports in the order P0 to P5. -/
def Port.all : List Port := [.p0, .p1, .p2, .p3, .p4, .p5]

namespace Machine

/-! ### The Settings Store's values (R138, R154) -/

/-- Which level of a line counts as active (settings 13 to 16 and 22). -/
inductive Polarity where
  | activeHigh | activeLow
deriving DecidableEq, Repr

/-- The direction sign (setting 19). -/
inductive DirectionSign where
  | highForward | highReverse
deriving DecidableEq, Repr

/-- The edge mode (setting 21). -/
inductive EdgeMode where
  | leading | trailing | both
deriving DecidableEq, Repr

/-- The role of a port (R138). -/
inductive Role where
  | unused
  | geometry
  | unit (x : Lane)
  | travel
  | observer
deriving DecidableEq, Repr

/-- The role and the rights of a port (R138). -/
structure PortRole where
  role : Role
  setup : Bool
  freeze : Bool
  read : Bool
deriving DecidableEq, Repr

/-- The live settings (R154). Numbers are held as carried: millimetres and milliseconds. -/
structure Settings where
  linkRate : Int
  presenceInterval : Int
  defaultStatusInterval : Int
  lanesFitted : PerLane Bool
  defaultNeed : PerLane Int
  laneOffset : PerLane Int
  tdnPolarity : PerLane Polarity
  scalerBase : Int
  scalerPattern : Int
  directionSign : DirectionSign
  detectorLead : Int
  edgeMode : EdgeMode
  sdetPolarity : Polarity
  nominalWidth : Int
  widthMin : Int
  widthMax : Int
  captureWindow : Int
  minimumSpacing : Int
  claimWindow : Int
  holdWindow : Int
  retireDistance : Int
  creepTolerance : Int
  liftTimeout : Int
  holdOverdue : Int
  downLimit : Int
  tdnDebounce : Int
  deepLift : Int
  roles : PerPort PortRole
deriving DecidableEq, Repr

/-- The default roles and rights (R138). -/
def Settings.defaultRoles : PerPort PortRole where
  p0 := ⟨.geometry, true, true, true⟩
  p1 := ⟨.unit .a, false, true, true⟩
  p2 := ⟨.unit .b, false, true, true⟩
  p3 := ⟨.unit .c, false, true, true⟩
  p4 := ⟨.unit .d, false, true, true⟩
  p5 := ⟨.travel, false, true, true⟩

/-- The defaults of R154. -/
def Settings.defaults : Settings where
  linkRate := 460800
  presenceInterval := 300
  defaultStatusInterval := 100
  lanesFitted := .replicate true
  defaultNeed := .replicate 1
  laneOffset := .replicate 0
  tdnPolarity := .replicate .activeHigh
  scalerBase := 2
  scalerPattern := 1
  directionSign := .highForward
  detectorLead := 8400
  edgeMode := .both
  sdetPolarity := .activeHigh
  nominalWidth := 260
  widthMin := 160
  widthMax := 360
  captureWindow := 120
  minimumSpacing := 450
  claimWindow := 50
  holdWindow := 80
  retireDistance := 1800
  creepTolerance := 25
  liftTimeout := 6000
  holdOverdue := 30000
  downLimit := 3000
  tdnDebounce := 8
  deepLift := 40
  roles := Settings.defaultRoles

/-- The non-volatile store image (R157). `torn` is an image whose write a full reset stopped: the spec gives its
contents no value, only that it is invalid. DEDUCED (log 9), safe. -/
inductive StoreImage where
  | bytes (b : List Byte)
  | torn
deriving DecidableEq, Repr

/-- The save in flight: the port and tag of its SAVE, the snapshot, and the time it has run in ms (R157). -/
structure SaveInFlight where
  port : Port
  tag : Byte
  snapshot : Settings
  ms : Nat
deriving DecidableEq, Repr

structure SettingsStore where
  live : Settings
  image : StoreImage
  save : Option SaveInFlight
  linkRateInUse : Int
deriving DecidableEq, Repr

/-! ### Axis Unit (R1) -/

inductive Direction where
  | forward | reverse
deriving DecidableEq, Repr

structure AxisUnit where
  axis : Int
  phase : Fin 4
  direction : Direction
deriving DecidableEq, Repr

/-! ### Detector Unit (R16) -/

/-- A candidate: its centre and its width, 0 for not measured (R25). -/
structure Candidate where
  centre : Int
  width : Nat
deriving DecidableEq, Repr

/-- The Detector Unit. `made` is a candidate made and not yet offered: only while an AXIS PRESET that arrived together
with its edge is taken before the offer (R13; log 26). -/
structure DetectorUnit where
  sdetActive : Bool
  inFlight : Option Int
  made : Option Candidate
  candidates : Count32
  rejects : Count32
deriving DecidableEq, Repr

/-! ### Sleeper List (R33, R35, R36) -/

inductive Origin where
  | detected | placed
deriving DecidableEq, Repr

/-- The kind of an entry; `omitted` is OMIT. -/
inductive Kind where
  | plain | bearer | omitted
deriving DecidableEq, Repr

/-- The status of a lane record; `unclaimed` is OPEN. -/
inductive LaneStatus where
  | unclaimed | claimed | worked | waived | failed
deriving DecidableEq, Repr

structure LiftTarget where
  left : Nat
  right : Nat
  line : Int
deriving DecidableEq, Repr

structure LaneRecord where
  need : Nat
  mask : BitVec 4
  status : LaneStatus
  squeezes : Nat
deriving DecidableEq, Repr

structure Entry where
  seq : SeqNo
  position : Int
  width : Nat
  origin : Origin
  seen : Nat
  gap : Bool
  kind : Kind
  target : Option LiftTarget
  overdue : Bool
  deferred : Bool
  lanes : PerLane LaneRecord
deriving DecidableEq, Repr

/-- The Sleeper List. `changeWaits` says that the axis change of the last pulse has not yet been taken here: only while
the candidate of an edge that came together with that pulse is offered first (R31; log 31). -/
structure SleeperList where
  entries : List Entry
  nextSeq : SeqNo
  pendingGap : Bool
  created : Count32
  departed : Count32
  flushed : Count32
  changeWaits : Bool
deriving DecidableEq, Repr

/-! ### Passage List (R59, R60) -/

inductive PassageOutcome where
  | complete | waived | missed | failed | struck
deriving DecidableEq, Repr

structure PassageLane where
  need : Nat
  status : LaneStatus
  squeezes : Nat
deriving DecidableEq, Repr

structure PassageRecord where
  seq : SeqNo
  position : Int
  width : Nat
  origin : Origin
  seen : Nat
  gap : Bool
  kind : Kind
  overdue : Bool
  outcome : PassageOutcome
  lanes : PerLane PassageLane
deriving DecidableEq, Repr

structure PassageList where
  records : List PassageRecord
  taken : Count32
  discarded : Count32
deriving DecidableEq, Repr

/-! ### Lane Controllers (R68) -/

/-- The lane state, with the claimed seq in the states that name an entry (R69) and the down timer in ms in DOWN. -/
inductive LaneState where
  | off
  | idle
  | claimed (seq : SeqNo)
  | down (seq : SeqNo) (ms : Nat)
  | orphaned (seq : SeqNo)
  | fault
deriving DecidableEq, Repr

inductive LaneFaultCause where
  | unpermittedDescent | downTooLong | squeezeOvercount
deriving DecidableEq, Repr

/-- A valid lane fault record (R83). -/
structure FaultRecord where
  cause : LaneFaultCause
  seq : Option SeqNo
  axis : Int
  detail : Nat
  secondFaults : Nat
deriving DecidableEq, Repr

structure LaneController where
  state : LaneState
  tdnActive : Bool
  debounce : Option Nat
  fault : Option FaultRecord
  squeezes : Count32
deriving DecidableEq, Repr

/-! ### Hold Unit (R94) -/

/-- The hold state, with the held seq and the lift target copy in the states that have them, the lift timer in LIFTING
and the overdue timer in HELD (none: stopped), both in ms. -/
inductive HoldState where
  | free
  | lifting (seq : SeqNo) (target : LiftTarget) (ms : Nat)
  | held (seq : SeqNo) (target : LiftTarget) (overdueMs : Option Nat)
  | opening (seq : SeqNo) (target : LiftTarget)
deriving DecidableEq, Repr

/-! ### Motion Unit (R111) -/

inductive MotionState where
  | halt
  | granted (start : Int) (distance : Nat)
deriving DecidableEq, Repr

structure MotionUnit where
  state : MotionState
  haltPoint : Int
deriving DecidableEq, Repr

/-! ### Freeze Unit (R123, R125) -/

inductive FreezeState where
  | run | frozen
deriving DecidableEq, Repr

inductive FreezeCause where
  | start | restart | request | line | unpermittedDescent | creepUnderLoad | orphanDown | geometryLost | axisLimit
deriving DecidableEq, Repr

/-- The source of a cause; `nowhere` is "none". -/
inductive FreezeSource where
  | nowhere
  | port (p : Port)
  | lane (x : Lane)
  | frzin
deriving DecidableEq, Repr

structure FreezeUnit where
  state : FreezeState
  cause : FreezeCause
  source : FreezeSource
  axis : Int
  seq : Option SeqNo
  further : Nat
  lastFurther : Option FreezeCause
deriving DecidableEq, Repr

/-! ### Port Interface (R133 to R137, R141, R160) -/

/-- The receiver of a port; in frame, the bytes taken since the start byte, in order, and the time in ms since the last
byte of the frame (R133). -/
inductive RxState where
  | hunting
  | inFrame (taken : List Byte) (ms : Nat)
deriving DecidableEq, Repr

/-- A valid frame waiting in a queue: its tag, its code and its parameters (R144). -/
structure Request where
  tag : Byte
  code : Byte
  params : List Byte
deriving DecidableEq, Repr

inductive Presence where
  | absent
  | present (ms : Nat)
deriving DecidableEq, Repr

/-- A 16-bit counter that saturates, with its full flag (R134). -/
structure SatCounter where
  count : BitVec 16
  full : Bool
deriving DecidableEq, Repr

/-- What a frame going out is; `restartResponse` is the ACCEPTED response to RESTART, whose end R160 waits for. -/
inductive TxKind where
  | response | statusFrame | restartResponse
deriving DecidableEq, Repr

/-- A frame to be sent, by its body; `Frames.wire` gives its bytes on the line. -/
structure TxFrame where
  kind : TxKind
  body : List Byte
deriving DecidableEq, Repr

structure PortState where
  rx : RxState
  queue : List Request
  presence : Presence
  keyCount : Nat
  frameErrors : SatCounter
  overruns : SatCounter
  sending : Option TxFrame
  response : Option TxFrame
  status : Option TxFrame
deriving DecidableEq, Repr

/-- An accepted RESTART that has not yet taken effect (R160). -/
structure RestartPending where
  port : Port
  responseSent : Bool
deriving DecidableEq, Repr

/-! ### Event Unit (R146) -/

structure EventPort where
  latched : BitVec 24
  mask : BitVec 24
  interval : Int
  timer : Option Nat
deriving DecidableEq, Repr

/-! ### The lines (00_scope.md) -/

/-- The levels of the input lines and the levels of the output lines (outputs are active high: true is active). -/
structure Pins where
  odb : Level
  sdet : Level
  tdn : PerLane Level
  frzin : Level
  rstn : Level
  dpm : PerLane Bool
  movok : Bool
  frzout : Bool
deriving DecidableEq, Repr

/-! ### The machine -/

end Machine
end Sys2Proof

namespace Sys2Proof.Machine

structure State where
  axis : AxisUnit
  detector : DetectorUnit
  list : SleeperList
  passages : PassageList
  lanes : PerLane LaneController
  hold : HoldState
  motion : MotionUnit
  freeze : FreezeUnit
  ports : PerPort PortState
  restart : Option RestartPending
  events : PerPort EventPort
  store : SettingsStore
  pins : Pins
  /-- The model's own: the argument of the free values of Config (log 5). -/
  freeCount : Nat
  /-- The commands that wait, first in, first out. -/
  pending : List Instr
deriving DecidableEq, Repr

/-- Why the machine stops with a fault. No rule of the spec stops the part (a lane fault and a freeze are states), so
there is no fault: the type has no constructor. -/
inductive Fault where
deriving DecidableEq, Repr

/-- Why a command is refused. -/
inductive Refusal where
  /-- Raised by `exec` for a row that has no meaning yet; no arm of this model raises it. Safe. -/
  | notModelled (mnemonic : String)
deriving DecidableEq, Repr

/-- A port as a full reset leaves it (R143). -/
def PortState.reset : PortState where
  rx := .hunting
  queue := []
  presence := .absent
  keyCount := 0
  frameErrors := ⟨0, false⟩
  overruns := ⟨0, false⟩
  sending := none
  response := none
  status := none

/-- A fitted lane as a full reset leaves it (R68). -/
def LaneController.reset : LaneController where
  state := .idle
  tdnActive := false
  debounce := none
  fault := none
  squeezes := 0

/-- The machine right after a full reset that found a blank store image (log 7, DESIGN CHOICE, unsafe) and every input
line inactive (log 8, DESIGN CHOICE, unsafe). Every other value is the spec's (R14, R16, R32, R33, R59, R68, R93,
R94, R111, R123, R143, R153, R159); STARTED is bit 23 and STORE_BLANK bit 21 of an event set. -/
def State.reset : State where
  axis := ⟨0, 0, .forward⟩
  detector := ⟨false, none, none, 0, 0⟩
  list := ⟨[], 1, false, 0, 0, 0, false⟩
  passages := ⟨[], 0, 0⟩
  lanes := .replicate LaneController.reset
  hold := .free
  motion := ⟨.halt, 0⟩
  freeze := ⟨.frozen, .start, .nowhere, 0, none, 0, none⟩
  ports := .replicate PortState.reset
  restart := none
  events :=
    { p0 := ⟨0xA00000, 0, 100, some 0⟩
      p1 := ⟨0x800000, 0, 100, some 0⟩
      p2 := ⟨0x800000, 0, 100, some 0⟩
      p3 := ⟨0x800000, 0, 100, some 0⟩
      p4 := ⟨0x800000, 0, 100, some 0⟩
      p5 := ⟨0x800000, 0, 100, some 0⟩ }
  store := ⟨Settings.defaults, .bytes (List.replicate 256 0xFF), none, 460800⟩
  pins := ⟨.low, .low, .replicate .low, .high, .high, .replicate false, false, true⟩
  freeCount := 0
  pending := []

end Sys2Proof.Machine
end

