-- ==== Sys2Proof/Machine/Frames.lean ====
section
/-! DEFINITION. Frames on the line: the CRC, the bytes of a frame, and a port's receiver (R133). -/

namespace Sys2Proof.Machine

/-- The start byte of every frame (R133). -/
def Frames.startByte : Byte := 0xC5

/-- One bit of the CRC-16 with polynomial 0x1021, most significant bit first (R133). -/
def Frames.crcBit (crc : BitVec 16) : BitVec 16 :=
  if crc.msb then (crc <<< 1) ^^^ 0x1021#16 else crc <<< 1

/-- One byte of the CRC-16. -/
def Frames.crcByte (crc : BitVec 16) (b : Byte) : BitVec 16 :=
  let start := crc ^^^ (b ++ 0#8)
  Frames.crcBit (Frames.crcBit (Frames.crcBit (Frames.crcBit (Frames.crcBit (Frames.crcBit (Frames.crcBit
    (Frames.crcBit start)))))))

/-- The CRC-16 of R133 and R157: initial value 0xFFFF, no final inversion. -/
def Frames.crc16 (bytes : List Byte) : BitVec 16 := bytes.foldl Frames.crcByte 0xFFFF#16

/-- The high byte of a 16-bit word. -/
def Frames.highByte (w : BitVec 16) : Byte := w.extractLsb' 8 8

/-- The low byte of a 16-bit word. -/
def Frames.lowByte (w : BitVec 16) : Byte := w.extractLsb' 0 8

/-- The bytes of a frame with this body: start byte, length, body, CRC over length and body, high byte first (R133). -/
def Frames.wire (body : List Byte) : List Byte :=
  let crc := Frames.crc16 (BitVec.ofNat 8 body.length :: body)
  Frames.startByte :: BitVec.ofNat 8 body.length :: body ++ [Frames.highByte crc, Frames.lowByte crc]

/-- What one received byte brings about. -/
inductive RxEvent where
  | nothing
  | discarded
  | valid (body : List Byte)
deriving DecidableEq, Repr

/-- A byte taken while hunting (R133): only the start byte opens a frame. -/
def Frames.huntingByte (b : Byte) : RxState :=
  if b = Frames.startByte then .inFrame [] 0 else .hunting

/-- The last CRC byte has come: `frame` is the length byte, the body and the two CRC bytes (R133). -/
def Frames.judgeFrame (n : Byte) (bodyAndCrc : List Byte) : RxEvent :=
  let body := bodyAndCrc.take n.toNat
  let crc := Frames.crc16 (n :: body)
  if bodyAndCrc.drop n.toNat = [Frames.highByte crc, Frames.lowByte crc] then .valid body else .discarded

/-- A byte taken in frame without a late gap; `taken` are the bytes since the start byte, this one included (R133). -/
def Frames.frameByte (taken : List Byte) : RxState × RxEvent :=
  match taken with
  | [] => (.inFrame [] 0, .nothing)
  | n :: rest =>
    if n.toNat < 2 ∨ 96 < n.toNat then (.hunting, .discarded)
    else if rest.length < n.toNat + 2 then (.inFrame taken 0, .nothing)
    else (.hunting, Frames.judgeFrame n rest)

/-- One byte at a port's receiver (R133). A gap of more than 2 ms since the last byte of a frame discards the frame, and
the byte that ends the gap is taken afresh as a hunting byte. The byte says so itself, or the time held does (log 25). -/
def Frames.receive (st : RxState) (b : RxByte) : RxState × RxEvent :=
  match st with
  | .hunting => (Frames.huntingByte b.byte, .nothing)
  | .inFrame taken ms =>
    if b.lateGap || decide (2 < ms) then (Frames.huntingByte b.byte, .discarded)
    else Frames.frameByte (taken ++ [b.byte])

/-- What a run of bytes brings about at a receiver, in order. -/
def Frames.receiveAll (st : RxState) : List RxByte → RxState × List RxEvent
  | [] => (st, [])
  | b :: bs =>
    let (st', ev) := Frames.receive st b
    let (st'', evs) := Frames.receiveAll st' bs
    (st'', ev :: evs)

/-- The bytes of a frame arriving with no late gap. -/
def Frames.onTime (bytes : List Byte) : List RxByte := bytes.map fun b => ⟨b, false⟩

end Sys2Proof.Machine
end

