-- ==== Sys2Proof/Machine/Operands.lean ====
section
/-! DEFINITION. The operand and data forms of the ports (R144, R145): how parameters are read from a frame, how values
are carried in a response, the codes of R144, the result codes of R142, and the layouts of the entry, the passage
record, the fault record, the freeze record and the state block. -/

namespace Sys2Proof.Machine

/-! ### Numbers on a port: most significant byte first, signed in two's complement (R144) -/

/-- Two bytes read as an unsigned number. -/
def Operands.word (hi lo : Byte) : BitVec 16 := hi ++ lo

/-- Two bytes read as a signed number. -/
def Operands.signed2 (hi lo : Byte) : Int := (hi ++ lo : BitVec 16).toInt

/-- Four bytes read as a signed number. -/
def Operands.signed4 (b3 b2 b1 b0 : Byte) : Int := ((b3 ++ b2 : BitVec 16) ++ (b1 ++ b0 : BitVec 16) : BitVec 32).toInt

/-- Three bytes read as an event set (R144). -/
def Operands.eventSet (b2 b1 b0 : Byte) : BitVec 24 := (b2 ++ b1 : BitVec 16) ++ b0

/-- A number carried in one byte. -/
def Operands.carry1 (n : Nat) : List Byte := [BitVec.ofNat 8 n]

/-- A 16-bit word carried in two bytes. -/
def Operands.carry2 (w : BitVec 16) : List Byte := [w.extractLsb' 8 8, w.extractLsb' 0 8]

/-- A 32-bit word carried in four bytes. -/
def Operands.carry4 (w : BitVec 32) : List Byte :=
  [w.extractLsb' 24 8, w.extractLsb' 16 8, w.extractLsb' 8 8, w.extractLsb' 0 8]

/-- A signed number carried in four bytes. -/
def Operands.carryAxis (i : Int) : List Byte := Operands.carry4 (BitVec.ofInt 32 i)

/-- An event set carried in three bytes. -/
def Operands.carryEvents (w : BitVec 24) : List Byte := [w.extractLsb' 16 8, w.extractLsb' 8 8, w.extractLsb' 0 8]

/-- A seq that may be none: a presence byte and the seq (R144). The seq bytes of none are 0: DEDUCED (log 11), unsafe. -/
def Operands.carrySeq? (q : Option SeqNo) : List Byte :=
  match q with
  | none => [0, 0, 0]
  | some q => 1 :: Operands.carry2 q

/-- Yes or no (R144). -/
def Operands.carryBool (b : Bool) : List Byte := [if b then 1 else 0]

/-! ### Codes (R144) -/

def Lane.code : Lane → Nat
  | .a => 0
  | .b => 1
  | .c => 2
  | .d => 3

/-- A lane letter as carried; none outside A to D. -/
def Lane.ofCode? (b : Byte) : Option Lane := Lane.all.find? fun x => BitVec.ofNat 8 (Lane.code x) = b

def Port.number : Port → Nat
  | .p0 => 0
  | .p1 => 1
  | .p2 => 2
  | .p3 => 3
  | .p4 => 4
  | .p5 => 5

def Role.code : Role → Nat
  | .unused => 0
  | .geometry => 1
  | .unit .a => 2
  | .unit .b => 3
  | .unit .c => 4
  | .unit .d => 5
  | .travel => 6
  | .observer => 7

def Role.all : List Role :=
  [.unused, .geometry, .unit .a, .unit .b, .unit .c, .unit .d, .travel, .observer]

/-- A role as carried; none outside its set. -/
def Role.ofCode? (n : Nat) : Option Role := Role.all.find? fun r => r.code = n

/-- Rights as carried: bit 0 SETUP, bit 1 FREEZE, bit 2 READ. -/
def PortRole.rightsCode (r : PortRole) : Nat :=
  (if r.setup then 1 else 0) + (if r.freeze then 2 else 0) + (if r.read then 4 else 0)

/-- A role with rights, from their codes; none when either lies outside its set. -/
def PortRole.ofCodes? (role rights : Nat) : Option PortRole :=
  if rights < 8 then
    (Role.ofCode? role).map fun r => ⟨r, rights % 2 = 1, rights / 2 % 2 = 1, rights / 4 % 2 = 1⟩
  else none

def Kind.code : Kind → Nat
  | .plain => 0
  | .bearer => 1
  | .omitted => 2

/-- A kind as carried; none outside its set. -/
def Kind.ofCode? (b : Byte) : Option Kind := [Kind.plain, .bearer, .omitted].find? fun k => BitVec.ofNat 8 k.code = b

def LaneStatus.code : LaneStatus → Nat
  | .unclaimed => 0
  | .claimed => 1
  | .worked => 2
  | .waived => 3
  | .failed => 4

def PassageOutcome.code : PassageOutcome → Nat
  | .complete => 0
  | .waived => 1
  | .missed => 2
  | .failed => 3
  | .struck => 4

def Direction.code : Direction → Nat
  | .forward => 0
  | .reverse => 1

def FreezeSource.code : FreezeSource → Nat
  | .nowhere => 0x00
  | .port p => 0x10 + Port.number p
  | .lane x => 0x20 + Lane.code x
  | .frzin => 0x30

/-- The lane state codes of R68. -/
def LaneState.code : LaneState → Nat
  | .off => 0
  | .idle => 1
  | .claimed _ => 2
  | .down _ _ => 3
  | .orphaned _ => 4
  | .fault => 5

/-- The hold state codes of R94. -/
def HoldState.code : HoldState → Nat
  | .free => 0
  | .lifting _ _ _ => 1
  | .held _ _ _ => 2
  | .opening _ _ => 3

/-- The motion state codes of R111. -/
def MotionState.code : MotionState → Nat
  | .halt => 0
  | .granted _ _ => 1

/-- The freeze state codes of R123. -/
def FreezeState.code : FreezeState → Nat
  | .run => 0
  | .frozen => 1

/-- The cause codes of R125. -/
def FreezeCause.code : FreezeCause → Nat
  | .start => 1
  | .restart => 2
  | .request => 3
  | .line => 4
  | .unpermittedDescent => 5
  | .creepUnderLoad => 6
  | .orphanDown => 7
  | .geometryLost => 8
  | .axisLimit => 9

/-- The lane fault causes of R83. -/
def LaneFaultCause.code : LaneFaultCause → Nat
  | .unpermittedDescent => 1
  | .downTooLong => 2
  | .squeezeOvercount => 3

/-- A set of lanes, bit 0 A to bit 3 D (R144). -/
def Operands.laneSet (v : PerLane Bool) : Nat :=
  (if v.a then 1 else 0) + (if v.b then 2 else 0) + (if v.c then 4 else 0) + (if v.d then 8 else 0)

/-! ### Results (R142) -/

inductive Result where
  | accepted | adjusted
  | malformed | noRight | protectedRequest | badKey | frozen | storeBusy | notQuiescent | unknownEntry | wrongState
  | moving | outOfWindow | obstacle | shortWork | lanesDown | claimsOpen | noTarget | conditions | roleConflict
  | duplicate | spacing | full
deriving DecidableEq, Repr

def Result.code : Result → Nat
  | .accepted => 0x00
  | .adjusted => 0x01
  | .malformed => 0x11
  | .noRight => 0x12
  | .protectedRequest => 0x13
  | .badKey => 0x14
  | .frozen => 0x15
  | .storeBusy => 0x16
  | .notQuiescent => 0x17
  | .unknownEntry => 0x18
  | .wrongState => 0x19
  | .moving => 0x1A
  | .outOfWindow => 0x1B
  | .obstacle => 0x1C
  | .shortWork => 0x1D
  | .lanesDown => 0x1E
  | .claimsOpen => 0x1F
  | .noTarget => 0x20
  | .conditions => 0x21
  | .roleConflict => 0x22
  | .duplicate => 0x23
  | .spacing => 0x24
  | .full => 0x25

/-- The lowest-numbered refusal among the checks that fail (R142). A check is whether it fails and its refusal. -/
def Operands.lowestRefusal : List (Bool × Result) → Option Result
  | [] => none
  | (fails, r) :: rest =>
    match fails, Operands.lowestRefusal rest with
    | false, low => low
    | true, none => some r
    | true, some low => some (if r.code ≤ low.code then r else low)

/-- Accepted, or adjusted when a value taken differs from the value written (R142). -/
def Operands.taken (changed : Bool) : Result := if changed then .adjusted else .accepted

/-! ### Requests (R144) -/

/-- A valid frame's body as a request: tag, code, parameters. A body has at least two bytes (R133). -/
def Request.ofBody (body : List Byte) : Request :=
  match body with
  | tag :: code :: params => ⟨tag, code, params⟩
  | [tag] => ⟨tag, 0, []⟩
  | [] => ⟨0, 0, []⟩

/-- The request that a code names, as the command that takes it from a port; none for an unknown code (R144). -/
def Request.command? (p : Port) (code : Byte) : Option Instr :=
  match code.toNat with
  | 0x01 => some (.present p)
  | 0x02 => some (.readState p)
  | 0x03 => some (.readEvents p)
  | 0x04 => some (.eventMask p)
  | 0x05 => some (.statusInterval p)
  | 0x06 => some (.readEntry p)
  | 0x07 => some (.readRegister p)
  | 0x08 => some (.readPassages p)
  | 0x09 => some (.readCounters p)
  | 0x0A => some (.readSetting p)
  | 0x0B => some (.readFault p)
  | 0x0C => some (.freeze p)
  | 0x0D => some (.key p)
  | 0x10 => some (.annotate p)
  | 0x11 => some (.place p)
  | 0x12 => some (.strike p)
  | 0x13 => some (.takePassages p)
  | 0x14 => some (.holdTake p)
  | 0x15 => some (.holdSet p)
  | 0x16 => some (.holdDrop p)
  | 0x17 => some (.holdClear p)
  | 0x20 => some (.claim p)
  | 0x21 => some (.finish p)
  | 0x22 => some (.waive p)
  | 0x23 => some (.adopt p)
  | 0x24 => some (.clearLane p)
  | 0x28 => some (.move p)
  | 0x29 => some (.stop p)
  | 0x30 => some (.set p)
  | 0x31 => some (.setRoles p)
  | 0x32 => some (.thaw p)
  | 0x33 => some (.save p)
  | 0x34 => some (.reload p)
  | 0x35 => some (.restart p)
  | 0x36 => some (.flush p)
  | 0x37 => some (.axisPreset p)
  | _ => none

/-- The command that takes this request from port p. -/
def Request.command (p : Port) (r : Request) : Instr := (Request.command? p r.code).getD (.unknownCode p)

/-- The code byte of a response: code + 0x80, in one byte (R144). For an unknown code of 0x80 or more the sum does not
fit the byte and its low eight bits are carried: DEDUCED (log 10), unsafe. -/
def Operands.responseCode (code : Byte) : Byte := code + 0x80

/-- The body of a response: tag echoed, code + 0x80, result, data (R144). -/
def Operands.responseBody (r : Request) (result : Result) (data : List Byte) : List Byte :=
  r.tag :: Operands.responseCode r.code :: BitVec.ofNat 8 result.code :: data

/-! ### Layouts (R144, R145) -/

/-- An entry's lane record as carried: need, squeezes done and mask in one byte, then the status (R145). -/
def LaneRecord.carried (r : LaneRecord) : List Byte :=
  [r.mask ++ (BitVec.ofNat 2 r.squeezes ++ BitVec.ofNat 2 r.need : BitVec 4), BitVec.ofNat 8 r.status.code]

/-- A passage's lane record as carried (R145). -/
def PassageLane.carried (r : PassageLane) : List Byte :=
  [0#4 ++ (BitVec.ofNat 2 r.squeezes ++ BitVec.ofNat 2 r.need : BitVec 4), BitVec.ofNat 8 r.status.code]

/-- Seen in bits 0 to 3 and kind in bits 4 and 5 (R145). -/
def Operands.seenKind (seen : Nat) (kind : Kind) : Byte := BitVec.ofNat 4 kind.code ++ BitVec.ofNat 4 seen

/-- The flags byte of an entry and, in its low three bits, of a passage record (R145). -/
def Operands.flags (placed gap overdue deferred target : Bool) : Byte :=
  BitVec.ofNat 8 ((if placed then 1 else 0) + (if gap then 2 else 0) + (if overdue then 4 else 0)
    + (if deferred then 8 else 0) + (if target then 16 else 0))

/-- A lift target: left, right, line. -/
def LiftTarget.carried (t : LiftTarget) : List Byte :=
  [BitVec.ofNat 8 t.left, BitVec.ofNat 8 t.right] ++ Operands.carry2 (BitVec.ofInt 16 t.line)

/-- An entry as carried, 23 bytes; an absent lift target is carried as zeros (R145). -/
def Entry.carried (e : Entry) (index : Nat) : List Byte :=
  Operands.carry2 e.seq ++ Operands.carry1 index ++ Operands.carryAxis e.position
    ++ Operands.carry2 (BitVec.ofNat 16 e.width)
    ++ [Operands.flags (e.origin = .placed) e.gap e.overdue e.deferred e.target.isSome, Operands.seenKind e.seen e.kind]
    ++ (e.target.getD ⟨0, 0, 0⟩).carried
    ++ e.lanes.a.carried ++ e.lanes.b.carried ++ e.lanes.c.carried ++ e.lanes.d.carried

/-- A passage record as carried, 20 bytes (R145). -/
def PassageRecord.carried (r : PassageRecord) : List Byte :=
  Operands.carry2 r.seq ++ Operands.carryAxis r.position ++ Operands.carry2 (BitVec.ofNat 16 r.width)
    ++ [Operands.flags (r.origin = .placed) r.gap r.overdue false false, Operands.seenKind r.seen r.kind,
        BitVec.ofNat 8 r.outcome.code, 0]
    ++ r.lanes.a.carried ++ r.lanes.b.carried ++ r.lanes.c.carried ++ r.lanes.d.carried

/-- The seq that a lane state names (R69). -/
def LaneState.named? : LaneState → Option SeqNo
  | .claimed q => some q
  | .down q _ => some q
  | .orphaned q => some q
  | .off => none
  | .idle => none
  | .fault => none

/-- The seq that the hold names (R94). -/
def HoldState.named? : HoldState → Option SeqNo
  | .free => none
  | .lifting q _ _ => some q
  | .held q _ _ => some q
  | .opening q _ => some q

/-- A lane's fault record as carried, 14 bytes; an invalid record is all zeros after the valid byte (R145). -/
def LaneController.carriedFault (x : Lane) (l : LaneController) : List Byte :=
  Operands.carry1 (Lane.code x) ++ Operands.carry1 l.state.code ++
  match l.fault with
  | none => List.replicate 12 0
  | some f =>
    [1, BitVec.ofNat 8 f.cause.code] ++ Operands.carrySeq? f.seq ++ Operands.carryAxis f.axis
      ++ Operands.carry2 (BitVec.ofNat 16 f.detail) ++ Operands.carry1 f.secondFaults

/-- The freeze record as carried, 12 bytes (R145). -/
def FreezeUnit.carried (f : FreezeUnit) : List Byte :=
  [BitVec.ofNat 8 f.state.code, BitVec.ofNat 8 f.cause.code, BitVec.ofNat 8 f.source.code]
    ++ Operands.carryAxis f.axis ++ Operands.carrySeq? f.seq ++ Operands.carry1 f.further
    ++ Operands.carry1 (match f.lastFurther with | none => 0 | some c => c.code)

/-- The presence flags of the state block: bit 0 held seq, bits 1 to 4 lanes A to D, bit 5 list not empty (R144). -/
def Operands.presenceFlags (held a b c d entries : Bool) : Byte :=
  BitVec.ofNat 8 ((if held then 1 else 0) + (if a then 2 else 0) + (if b then 4 else 0) + (if c then 8 else 0)
    + (if d then 16 else 0) + (if entries then 32 else 0))

/-- The state block, 30 bytes (R144, R151); a seq whose flag is clear is carried as 0. -/
def State.stateBlock (s : State) : List Byte :=
  let seqOf (q : Option SeqNo) : List Byte := Operands.carry2 (q.getD 0)
  let named (x : Lane) : Option SeqNo := (s.lanes.get x).state.named?
  [BitVec.ofNat 8 s.freeze.state.code, BitVec.ofNat 8 s.freeze.cause.code, BitVec.ofNat 8 s.hold.code]
    ++ seqOf s.hold.named? ++ [BitVec.ofNat 8 s.motion.state.code, BitVec.ofNat 8 s.axis.direction.code]
    ++ Operands.carryAxis s.axis.axis
    ++ (Lane.all.map fun x => BitVec.ofNat 8 (s.lanes.get x).state.code)
    ++ (seqOf (named .a) ++ seqOf (named .b) ++ seqOf (named .c) ++ seqOf (named .d))
    ++ [Operands.presenceFlags s.hold.named?.isSome (named .a).isSome (named .b).isSome (named .c).isSome
          (named .d).isSome (!s.list.entries.isEmpty), BitVec.ofNat 8 s.list.entries.length]
    ++ seqOf (s.list.entries.head?.map Entry.seq) ++ seqOf (s.list.entries.getLast?.map Entry.seq)
    ++ [BitVec.ofNat 8 s.passages.records.length]

end Sys2Proof.Machine
end

