-- ==== Sys2Proof/Machine/Settings.lean ====
section
/-! DEFINITION. The settings table, legalisation, the cross-setting bounds and the store image (R30, R154 to R158). -/

namespace Sys2Proof.Machine

/-- The settings that SET writes, numbers 1 to 36 (R154). -/
inductive Setting where
  | linkRate | presenceInterval | defaultStatusInterval | lanesFitted
  | defaultNeed (x : Lane) | laneOffset (x : Lane) | tdnPolarity (x : Lane)
  | scalerBase | scalerPattern | directionSign | detectorLead | edgeMode | sdetPolarity
  | nominalWidth | widthMin | widthMax | captureWindow | minimumSpacing | claimWindow | holdWindow | retireDistance
  | creepTolerance | liftTimeout | holdOverdue | downLimit | tdnDebounce | deepLift
deriving DecidableEq, Repr

/-- The number by which SET and READ SETTING name a setting (R154). -/
def Setting.number : Setting → Nat
  | .linkRate => 1
  | .presenceInterval => 2
  | .defaultStatusInterval => 3
  | .lanesFitted => 4
  | .defaultNeed x => 5 + Lane.code x
  | .laneOffset x => 9 + Lane.code x
  | .tdnPolarity x => 13 + Lane.code x
  | .scalerBase => 17
  | .scalerPattern => 18
  | .directionSign => 19
  | .detectorLead => 20
  | .edgeMode => 21
  | .sdetPolarity => 22
  | .nominalWidth => 23
  | .widthMin => 24
  | .widthMax => 25
  | .captureWindow => 26
  | .minimumSpacing => 27
  | .claimWindow => 28
  | .holdWindow => 29
  | .retireDistance => 30
  | .creepTolerance => 31
  | .liftTimeout => 32
  | .holdOverdue => 33
  | .downLimit => 34
  | .tdnDebounce => 35
  | .deepLift => 36

/-- The settings 1 to 36 in the order of their numbers. -/
def Setting.all : List Setting :=
  [.linkRate, .presenceInterval, .defaultStatusInterval, .lanesFitted,
   .defaultNeed .a, .defaultNeed .b, .defaultNeed .c, .defaultNeed .d,
   .laneOffset .a, .laneOffset .b, .laneOffset .c, .laneOffset .d,
   .tdnPolarity .a, .tdnPolarity .b, .tdnPolarity .c, .tdnPolarity .d] ++
  [.scalerBase, .scalerPattern, .directionSign, .detectorLead, .edgeMode, .sdetPolarity, .nominalWidth, .widthMin,
   .widthMax, .captureWindow, .minimumSpacing, .claimWindow, .holdWindow, .retireDistance, .creepTolerance,
   .liftTimeout, .holdOverdue, .downLimit, .tdnDebounce, .deepLift]

/-- The setting of a number; none outside 1..36. -/
def Setting.ofNumber? (n : Nat) : Option Setting := Setting.all.find? fun k => k.number = n

/-- The values a setting may take (R154). -/
inductive Domain where
  /-- A range with both ends included, and a step. -/
  | range (lo hi step : Int)
  /-- An enumerated setting, by its codes. -/
  | codes (set : List Int)
  /-- The default status interval: 0 (off), or lo..hi in steps. -/
  | offOrRange (lo hi step : Int)
deriving DecidableEq, Repr

def Setting.domain : Setting → Domain
  | .linkRate => .codes [115200, 230400, 460800, 921600]
  | .presenceInterval => .range 50 2550 10
  | .defaultStatusInterval => .offOrRange 20 2550 10
  | .lanesFitted => .codes [0, 1, 2, 3, 4, 5, 6, 7, 8, 9, 10, 11, 12, 13, 14, 15]
  | .defaultNeed _ => .range 0 3 1
  | .laneOffset _ => .range (-500) 500 1
  | .tdnPolarity _ => .codes [0, 1]
  | .scalerBase => .range 1 63 1
  | .scalerPattern => .range 0 3 1
  | .directionSign => .codes [0, 1]
  | .detectorLead => .range 1000 30000 1
  | .edgeMode => .codes [0, 1, 2]
  | .sdetPolarity => .codes [0, 1]
  | .nominalWidth => .range 150 400 1
  | .widthMin => .range 80 400 1
  | .widthMax => .range 120 600 1
  | .captureWindow => .range 20 200 1
  | .minimumSpacing => .range 300 900 1
  | .claimWindow => .range 10 200 1
  | .holdWindow => .range 10 200 1
  | .retireDistance => .range 800 5000 1
  | .creepTolerance => .range 5 100 1
  | .liftTimeout => .range 500 25500 100
  | .holdOverdue => .range 1000 255000 1000
  | .downLimit => .range 500 10000 100
  | .tdnDebounce => .range 2 50 1
  | .deepLift => .range 0 200 1

/-- The settings that need an open key window and quiescence (R154). -/
def Setting.isProtected : Setting → Bool
  | .lanesFitted => true
  | .laneOffset _ => true
  | .scalerBase => true
  | .scalerPattern => true
  | .directionSign => true
  | .detectorLead => true
  | _ => false

/-- The nearer bound of a range. -/
def Domain.clamp (lo hi v : Int) : Int := if v < lo then lo else if hi < v then hi else v

/-- Legalisation (R155): a number outside its range is taken as the nearer bound, then rounded down to its step; an
enumerated value outside its set leaves the value held; a default status interval of 1..19 is taken as 20. -/
def Domain.legalise (d : Domain) (held v : Int) : Int :=
  match d with
  | .range lo hi step => Domain.clamp lo hi v / step * step
  | .codes set => if v ∈ set then v else held
  | .offOrRange lo hi step =>
    let t := Domain.clamp 0 hi v
    if 0 < t ∧ t < lo then lo else t / step * step

def Polarity.code : Polarity → Int
  | .activeHigh => 0
  | .activeLow => 1

def Polarity.ofCode (held : Polarity) (v : Int) : Polarity :=
  if v = 0 then .activeHigh else if v = 1 then .activeLow else held

def DirectionSign.code : DirectionSign → Int
  | .highForward => 0
  | .highReverse => 1

def DirectionSign.ofCode (held : DirectionSign) (v : Int) : DirectionSign :=
  if v = 0 then .highForward else if v = 1 then .highReverse else held

def EdgeMode.code : EdgeMode → Int
  | .leading => 0
  | .trailing => 1
  | .both => 2

def EdgeMode.ofCode (held : EdgeMode) (v : Int) : EdgeMode :=
  if v = 0 then .leading else if v = 1 then .trailing else if v = 2 then .both else held

/-- A set of lanes from its bits, bit 0 A to bit 3 D (R154). -/
def Operands.lanesOfBits (n : Nat) : PerLane Bool := ⟨n.testBit 0, n.testBit 1, n.testBit 2, n.testBit 3⟩

/-- The live value of a setting in its carried form (R154). -/
def Settings.get (s : Settings) : Setting → Int
  | .linkRate => s.linkRate
  | .presenceInterval => s.presenceInterval
  | .defaultStatusInterval => s.defaultStatusInterval
  | .lanesFitted => Operands.laneSet s.lanesFitted
  | .defaultNeed x => s.defaultNeed.get x
  | .laneOffset x => s.laneOffset.get x
  | .tdnPolarity x => (s.tdnPolarity.get x).code
  | .scalerBase => s.scalerBase
  | .scalerPattern => s.scalerPattern
  | .directionSign => s.directionSign.code
  | .detectorLead => s.detectorLead
  | .edgeMode => s.edgeMode.code
  | .sdetPolarity => s.sdetPolarity.code
  | .nominalWidth => s.nominalWidth
  | .widthMin => s.widthMin
  | .widthMax => s.widthMax
  | .captureWindow => s.captureWindow
  | .minimumSpacing => s.minimumSpacing
  | .claimWindow => s.claimWindow
  | .holdWindow => s.holdWindow
  | .retireDistance => s.retireDistance
  | .creepTolerance => s.creepTolerance
  | .liftTimeout => s.liftTimeout
  | .holdOverdue => s.holdOverdue
  | .downLimit => s.downLimit
  | .tdnDebounce => s.tdnDebounce
  | .deepLift => s.deepLift

/-- Write the value of one setting, given in its carried form (R154).
SET legalises the value first (R155), so a value outside the setting's range or set comes only from a valid image, and
the spec says nothing of it. The model's choice (log 21): a number and the link rate are taken as they are; a polarity,
a direction sign or an edge mode outside its set leaves what is held; the lanes fitted are the low four bits of the
value, and no lane where it is negative. -/
def Settings.put (s : Settings) (k : Setting) (v : Int) : Settings :=
  match k with
  | .linkRate => { s with linkRate := v }
  | .presenceInterval => { s with presenceInterval := v }
  | .defaultStatusInterval => { s with defaultStatusInterval := v }
  | .lanesFitted => { s with lanesFitted := Operands.lanesOfBits v.toNat }
  | .defaultNeed x => { s with defaultNeed := s.defaultNeed.set x v }
  | .laneOffset x => { s with laneOffset := s.laneOffset.set x v }
  | .tdnPolarity x => { s with tdnPolarity := s.tdnPolarity.set x (Polarity.ofCode (s.tdnPolarity.get x) v) }
  | .scalerBase => { s with scalerBase := v }
  | .scalerPattern => { s with scalerPattern := v }
  | .directionSign => { s with directionSign := DirectionSign.ofCode s.directionSign v }
  | .detectorLead => { s with detectorLead := v }
  | .edgeMode => { s with edgeMode := EdgeMode.ofCode s.edgeMode v }
  | .sdetPolarity => { s with sdetPolarity := Polarity.ofCode s.sdetPolarity v }
  | .nominalWidth => { s with nominalWidth := v }
  | .widthMin => { s with widthMin := v }
  | .widthMax => { s with widthMax := v }
  | .captureWindow => { s with captureWindow := v }
  | .minimumSpacing => { s with minimumSpacing := v }
  | .claimWindow => { s with claimWindow := v }
  | .holdWindow => { s with holdWindow := v }
  | .retireDistance => { s with retireDistance := v }
  | .creepTolerance => { s with creepTolerance := v }
  | .liftTimeout => { s with liftTimeout := v }
  | .holdOverdue => { s with holdOverdue := v }
  | .downLimit => { s with downLimit := v }
  | .tdnDebounce => { s with tdnDebounce := v }
  | .deepLift => { s with deepLift := v }

/-- The greatest capture window under a minimum spacing S: floor(S/2) - 1 (R30). -/
def Settings.captureBound (spacing : Int) : Int := spacing / 2 - 1

/-- The value taken for a written setting: legalised, then brought within the bound of R30 on that setting. -/
def Settings.valueTaken (s : Settings) (k : Setting) (v : Int) : Int :=
  let t := k.domain.legalise (s.get k) v
  match k with
  | .captureWindow => min t (Settings.captureBound s.minimumSpacing)
  | .widthMax => max t s.widthMin
  | _ => t

/-- The bound of R30 on the other setting of the pair, after a write of k. -/
def Settings.boundOther (s : Settings) (k : Setting) : Settings :=
  match k with
  | .minimumSpacing => { s with captureWindow := min s.captureWindow (Settings.captureBound s.minimumSpacing) }
  | .widthMin => { s with widthMax := max s.widthMax s.widthMin }
  | _ => s

/-- The settings after SET writes k with v (R155). -/
def Settings.write (s : Settings) (k : Setting) (v : Int) : Settings :=
  (s.put k (s.valueTaken k v)).boundOther k

/-- Whether a SET is ADJUSTED: the value taken differs from the value written, or the bound changed the other setting
(R30, R155). -/
def Settings.writeAdjusts (s : Settings) (k : Setting) (v : Int) : Bool :=
  decide (s.valueTaken k v ≠ v) || decide (s.write k v ≠ s.put k (s.valueTaken k v))

/-! ### The roles and rights, settings 40 to 45 (R138, R154) -/

/-- A port's role and rights as carried: role code in bits 8 to 15, rights in bits 0 to 2. -/
def PortRole.carriedValue (r : PortRole) : Int := (r.role.code * 256 + r.rightsCode : Nat)

/-- A port's role and rights from its carried value (R138, R154), as a valid image holds it. The spec says nothing of a
value outside the sets. The model's choice (log 21): one of 0 or more leaves what is held, and a negative one is role
NONE without rights. -/
def PortRole.ofCarried (held : PortRole) (v : Int) : PortRole :=
  (PortRole.ofCodes? (v.toNat / 256) (v.toNat % 256)).getD held

/-- The value of a setting number of READ SETTING, 1..36 or 40..45 (R156). -/
def Settings.read? (s : Settings) (n : Nat) : Option Int :=
  match Setting.ofNumber? n with
  | some k => some (s.get k)
  | none => (Port.all.find? fun p => 40 + Port.number p = n).map fun p => (s.roles.get p).carriedValue

/-- The roles keep R138: at most one GEOMETRY, one TRAVEL and one of each UNIT role. -/
def Settings.rolesDistinct (roles : PerPort PortRole) : Bool :=
  let held := (roles.toList.map PortRole.role).filter fun r => r ≠ .unused && r ≠ .observer
  decide held.Nodup

/-! ### The store image (R157, R158) -/

/-- The values of settings 1 to 36 and then 40 to 45 in carried form (R157). -/
def Settings.values (s : Settings) : List Int :=
  Setting.all.map s.get ++ s.roles.toList.map PortRole.carriedValue

/-- The settings from those values, over the defaults. What a value outside its range or set gives is said at
Settings.put and PortRole.ofCarried (the model's choice, log 21). -/
def Settings.ofValues (vs : List Int) : Settings :=
  let base := (Setting.all.zip vs).foldl (fun s kv => s.put kv.1 kv.2) Settings.defaults
  let rv (i : Nat) (held : PortRole) : PortRole := PortRole.ofCarried held ((vs.drop 36).getD i (-1))
  let r := Settings.defaultRoles
  { base with roles := ⟨rv 0 r.p0, rv 1 r.p1, rv 2 r.p2, rv 3 r.p3, rv 4 r.p4, rv 5 r.p5⟩ }

/-- The first 172 bytes of an image: format tag 0xA55A, length 168, the values (R157). -/
def StoreImage.head (s : Settings) : List Byte :=
  [0xA5, 0x5A, 0x00, 0xA8] ++ s.values.flatMap Operands.carryAxis

/-- The image that SAVE writes, 256 bytes (R157). -/
def StoreImage.ofSettings (s : Settings) : StoreImage :=
  let head := StoreImage.head s
  .bytes (head ++ Operands.carry2 (Frames.crc16 head) ++ List.replicate 82 0xFF)

inductive ImageState where
  | valid | blank | invalid
deriving DecidableEq, Repr

/-- The code that RELOAD's response carries (R158). -/
def ImageState.code : ImageState → Nat
  | .valid => 0
  | .blank => 1
  | .invalid => 2

/-- How the Settings Store judges an image (R158). -/
def StoreImage.judge : StoreImage → ImageState
  | .torn => .invalid
  | .bytes b =>
    if b.take 16 = List.replicate 16 0xFF then .blank
    else if b.take 4 = [0xA5, 0x5A, 0x00, 0xA8]
        ∧ (b.drop 172).take 2 = Operands.carry2 (Frames.crc16 (b.take 172)) then .valid
    else .invalid

/-- Four bytes at a time as signed numbers. -/
def Operands.signedList : List Byte → List Int
  | b3 :: b2 :: b1 :: b0 :: rest => Operands.signed4 b3 b2 b1 b0 :: Operands.signedList rest
  | _ => []

/-- The live settings that an image gives: its values when it is valid, and otherwise the defaults (R158). -/
def StoreImage.settings (i : StoreImage) : Settings :=
  match i, i.judge with
  | .bytes b, .valid => Settings.ofValues (Operands.signedList ((b.drop 4).take 168))
  | _, _ => Settings.defaults

end Sys2Proof.Machine
end

