-- ==== Sys2Proof/Machine/Flags.lean ====
section
/-! DEFINITION. The conditions that the blocks test, each read from the state as it stands: presence and roles, rights,
alignment, the permits and the output lines, quiescence, retirement. -/

namespace Sys2Proof.Machine

/-- The live settings (R154). -/
def State.live (s : State) : Settings := s.store.live

/-- RSTN is held active (R159). -/
def State.inReset (s : State) : Bool := s.pins.rstn = .low

/-- A line's level read under a polarity (R17, R74). -/
def Level.isActive (pol : Polarity) (l : Level) : Bool :=
  match pol, l with
  | .activeHigh, .high => true
  | .activeLow, .low => true
  | _, _ => false

/-- The level that is active under a polarity. -/
def Polarity.activeLevel : Polarity → Level
  | .activeHigh => .high
  | .activeLow => .low

/-- The level that is inactive under a polarity. -/
def Polarity.inactiveLevel : Polarity → Level
  | .activeHigh => .low
  | .activeLow => .high

/-- SDET read under the live polarity (R17). -/
def State.sdetLineActive (s : State) : Bool := Level.isActive s.live.sdetPolarity s.pins.sdet

/-- TDNx read under the lane's live polarity (R74). -/
def State.tdnLineActive (s : State) (x : Lane) : Bool := Level.isActive (s.live.tdnPolarity.get x) (s.pins.tdn.get x)

/-- FRZIN is active low (R127). -/
def State.frzinActive (s : State) : Bool := s.pins.frzin = .low

/-! ### Ports, roles and rights (R137 to R139) -/

def State.portRole (s : State) (p : Port) : PortRole := s.live.roles.get p

def State.roleOf (s : State) (p : Port) : Role := (s.portRole p).role

/-- The lane of a port's UNIT role. -/
def State.laneOf? (s : State) (p : Port) : Option Lane :=
  match s.roleOf p with
  | .unit x => some x
  | _ => none

def Role.isUnit : Role → Bool
  | .unit _ => true
  | _ => false

def Presence.isPresent : Presence → Bool
  | .present _ => true
  | .absent => false

def State.portPresent (s : State) (p : Port) : Bool := (s.ports.get p).presence.isPresent

/-- The port of this role is present; false when no port holds the role (R68, R72). -/
def State.rolePresent (s : State) (r : Role) : Bool := Port.all.any fun p => s.roleOf p = r && s.portPresent p

/-- The port's key window is open (R141). -/
def State.keyOpen (s : State) (p : Port) : Bool := 0 < (s.ports.get p).keyCount

/-! ### Lanes (R70 to R72) -/

def State.isFitted (s : State) (x : Lane) : Bool := s.live.lanesFitted.get x

def State.lane (s : State) (x : Lane) : LaneController := s.lanes.get x

/-- The entry with this seq (R34). -/
def State.entry? (s : State) (q : SeqNo) : Option Entry := s.list.entries.find? fun e => e.seq = q

/-- An entry's index, counted from the head (R33). -/
def State.indexOf (s : State) (q : SeqNo) : Nat := s.list.entries.findIdx fun e => e.seq = q

/-- The absolute difference of two positions is at most w. -/
def Flags.within (a b w : Int) : Bool := decide (a - b ≤ w) && decide (b - a ≤ w)

/-- Lane x is aligned on an entry (R71). -/
def State.aligned (s : State) (x : Lane) (e : Entry) : Bool :=
  Flags.within e.position (s.axis.axis + s.live.laneOffset.get x) s.live.claimWindow

/-- The seq that a lane names in CLAIMED or DOWN, the states a permit needs (R72). -/
def LaneState.permitSeq? : LaneState → Option SeqNo
  | .claimed q => some q
  | .down q _ => some q
  | _ => none

/-- The hold is HELD on this seq. -/
def HoldState.heldOn (h : HoldState) (q : SeqNo) : Bool :=
  match h with
  | .held q' _ _ => q' = q
  | _ => false

/-- The descend permit of lane x (R72). -/
def State.permit (s : State) (x : Lane) : Bool :=
  s.freeze.state = .run
    && (match (s.lane x).state.permitSeq? with
        | none => false
        | some q => s.hold.heldOn q
            && (match s.entry? q with
                | none => false
                | some e => s.aligned x e))
    && s.rolePresent (.unit x) && s.rolePresent .geometry

def LaneState.isIdle (l : LaneState) : Bool := l = .idle

def LaneState.isDown : LaneState → Bool
  | .down _ _ => true
  | _ => false

def LaneState.isFault (l : LaneState) : Bool := l = .fault

/-- CLAIMED or ORPHANED, with the seq named. -/
def LaneState.claimedOrOrphaned? : LaneState → Option SeqNo
  | .claimed q => some q
  | .orphaned q => some q
  | _ => none

/-- Every fitted lane is IDLE. -/
def State.fittedIdle (s : State) : Bool := Lane.all.all fun x => !s.isFitted x || (s.lane x).state.isIdle

/-! ### Motion and quiescence (R111, R112, R142) -/

def MotionState.isGranted : MotionState → Bool
  | .granted _ _ => true
  | .halt => false

def State.frozen (s : State) : Bool := s.freeze.state = .frozen

/-- The part is quiescent (R142). -/
def State.quiescent (s : State) : Bool :=
  s.hold = .free && !s.motion.state.isGranted && s.fittedIdle

/-- There is a load on the track (R118). -/
def State.underLoad (s : State) : Bool :=
  s.hold ≠ .free || Lane.all.any fun x =>
    s.isFitted x && ((s.lane x).state.isDown || ((s.lane x).state.isFault && (s.lane x).tdnActive))

/-! ### Output lines (R72, R112, R124, R159) -/

def State.dpmLevel (s : State) (x : Lane) : Bool := !s.inReset && s.permit x

def State.movokLevel (s : State) : Bool := !s.inReset && !s.frozen && s.motion.state.isGranted

def State.frzoutLevel (s : State) : Bool := s.inReset || s.frozen

/-- The output lines follow their conditions. -/
def State.settle (s : State) : State :=
  { s with pins := { s.pins with dpm := .ofFn s.dpmLevel, movok := s.movokLevel, frzout := s.frzoutLevel } }

/-! ### Retirement (R48, R49, R51) -/

/-- The entry is due at this axis (R48). -/
def State.isDue (s : State) (axis : Int) (e : Entry) : Bool := e.position + s.live.retireDistance < axis

/-- The entry is held back (R49). -/
def State.isHeldBack (s : State) (e : Entry) : Bool :=
  e.lanes.toList.any (fun r => r.status = .claimed) || s.hold.named? = some e.seq

/-- Some working lane of the entry has this status; a working lane is fitted and has a need above 0 (R51). -/
def State.workingLane (s : State) (e : Entry) (st : LaneStatus) : Bool :=
  Lane.all.any fun x => s.isFitted x && 0 < (e.lanes.get x).need && (e.lanes.get x).status = st

/-- The outcome of an entry that retires (R51). -/
def State.outcome (s : State) (e : Entry) : PassageOutcome :=
  if s.workingLane e .failed then .failed
  else if s.workingLane e .unclaimed then .missed
  else if s.workingLane e .waived then .waived
  else .complete

end Sys2Proof.Machine
end

