-- ==== Sys2Proof/Machine/Events.lean ====
section
/-! DEFINITION. Events: their numbers, their targets, latching, delivery (R146 to R149). -/

namespace Sys2Proof.Machine

/-- The 24 events of R147; those whose targets depend on a lane or a port carry it. -/
inductive Event where
  | frozen | thawed
  | laneFault (x : Lane) | laneOrphaned | claimRevoked (x : Lane)
  | portAbsent | portPresent
  | holdHeld | holdFree | liftTimeout | holdOverdue
  | moveEnded | creep | reversed
  | straggler | listFull | detectReject | entryAdded | entryDeparted
  | passageOverflow
  | queueOverrun (p : Port)
  | storeBlank | storeInvalid
  | started
deriving DecidableEq, Repr

def Event.number : Event → Nat
  | .frozen => 1
  | .thawed => 2
  | .laneFault _ => 3
  | .laneOrphaned => 4
  | .claimRevoked _ => 5
  | .portAbsent => 6
  | .portPresent => 7
  | .holdHeld => 8
  | .holdFree => 9
  | .liftTimeout => 10
  | .holdOverdue => 11
  | .moveEnded => 12
  | .creep => 13
  | .reversed => 14
  | .straggler => 15
  | .listFull => 16
  | .detectReject => 17
  | .entryAdded => 18
  | .entryDeparted => 19
  | .passageOverflow => 20
  | .queueOverrun _ => 21
  | .storeBlank => 22
  | .storeInvalid => 23
  | .started => 24

/-- Whether a port is a target of an event, by its number, role and rights (R147). -/
def Event.targets (e : Event) (p : Port) (r : PortRole) : Bool :=
  match e with
  | .frozen => true
  | .thawed => true
  | .laneFault x => r.role = .unit x || r.role = .geometry || r.role = .observer
  | .laneOrphaned => r.role = .geometry || r.role = .observer || r.setup
  | .claimRevoked x => r.role = .unit x
  | .portAbsent => r.setup || r.role = .observer
  | .portPresent => r.setup || r.role = .observer
  | .holdHeld => r.role.isUnit || r.role = .observer
  | .holdFree => r.role = .travel || r.role.isUnit || r.role = .observer
  | .liftTimeout => r.role = .geometry || r.role = .observer
  | .holdOverdue => r.role = .geometry || r.role = .observer
  | .moveEnded => r.role = .travel || r.role = .observer
  | .creep => r.role = .travel || r.role = .geometry
  | .reversed => r.role = .travel || r.role = .geometry
  | .straggler => r.role = .geometry || r.role.isUnit
  | .listFull => r.role = .geometry
  | .detectReject => r.role = .geometry
  | .entryAdded => r.role = .geometry || r.role.isUnit
  | .entryDeparted => r.role = .geometry
  | .passageOverflow => r.role = .geometry
  | .queueOverrun q => p = q
  | .storeBlank => r.setup
  | .storeInvalid => r.setup
  | .started => true

/-- The set that holds one event: bit n - 1 for event n (R144). -/
def Event.bit (e : Event) : BitVec 24 := BitVec.twoPow 24 (e.number - 1)

/-- An event latched in a port's set (R147). -/
def EventPort.latch (v : EventPort) (e : Event) : EventPort := { v with latched := v.latched ||| e.bit }

/-- Raise an event: it is latched in the set of each of its target ports, found afresh (R147). -/
def State.raise (s : State) (e : Event) : State :=
  { s with events := .ofFn fun p =>
      if e.targets p (s.portRole p) then (s.events.get p).latch e else s.events.get p }

/-- The deliverable events of a port: latched and not masked (R146). -/
def EventPort.deliverable (v : EventPort) : BitVec 24 := v.latched &&& ~~~v.mask

/-- The numbers of the events in a set, in rising order. -/
def Operands.eventNumbers (w : BitVec 24) : List Nat := (List.range 24).filterMap fun i =>
  if w.getLsbD i then some (i + 1) else none

/-- The events of a delivery: up to 8 deliverable events, lowest number first (R149). -/
def EventPort.chosen (v : EventPort) : List Nat := (Operands.eventNumbers v.deliverable).take 8

/-- The set after a delivery has removed the events chosen (R149). -/
def EventPort.delivered (v : EventPort) : EventPort :=
  { v with latched := v.chosen.foldl (fun w n => w &&& ~~~(BitVec.twoPow 24 (n - 1))) v.latched }

/-- A delivery as carried, ten bytes: events remaining, events carried, event numbers (R144, R149). -/
def EventPort.deliveryData (v : EventPort) : List Byte :=
  let chosen := v.chosen
  let remaining := (Operands.eventNumbers v.deliverable).length - chosen.length
  [BitVec.ofNat 8 remaining, BitVec.ofNat 8 chosen.length]
    ++ chosen.map (fun n => BitVec.ofNat 8 n) ++ List.replicate (8 - chosen.length) 0

end Sys2Proof.Machine
end

