-- ==== Sys2Proof/Machine/Ops.lean ====
section
/-! DEFINITION. The named operations that the meanings share: the Freeze Unit's taking of a cause, the Motion Unit's
halts, the Sleeper List's writes, departures and retirement, the Passage List, the Lane Controllers' faults,
revocations and tine-depth events, presence, the ports' queues, the key window and the way a request is taken. -/

namespace Sys2Proof.Machine

/-! ### Freezing (R117, R125, R126) -/

/-- Entry to FROZEN halts any grant and sets the halt point to the axis (R117). -/
def State.haltAtAxis (s : State) : State := { s with motion := ⟨.halt, s.axis.axis⟩ }

/-- A cause reaches the Freeze Unit: in RUN it writes the record and enters FROZEN (R125), in FROZEN it is a further
cause (R126). -/
def State.handCause (s : State) (cause : FreezeCause) (source : FreezeSource) (seq : Option SeqNo) : State :=
  match s.freeze.state with
  | .run =>
    ({ s with freeze := ⟨.frozen, cause, source, s.axis.axis, seq, 0, none⟩ }.haltAtAxis).raise .frozen
  | .frozen =>
    { s with freeze := { s.freeze with further := min (s.freeze.further + 1) 15, lastFurther := some cause } }

/-! ### Motion (R116, R117) -/

/-- A grant ends: the halt point becomes the axis, HALT, and MOVE_ENDED is raised (R116, R117). -/
def State.endGrant (s : State) : State := s.haltAtAxis.raise .moveEnded

/-- A grant in force ends; in HALT nothing changes. -/
def State.endGrantIfAny (s : State) : State := if s.motion.state.isGranted then s.endGrant else s

/-! ### Passage List (R61, R62) -/

/-- The passage record of a departing entry (R52, R60). -/
def Entry.passage (e : Entry) (o : PassageOutcome) : PassageRecord where
  seq := e.seq
  position := e.position
  width := e.width
  origin := e.origin
  seen := e.seen
  gap := e.gap
  kind := e.kind
  overdue := e.overdue
  outcome := o
  lanes := e.lanes.map fun r => ⟨r.need, r.status, r.squeezes⟩

/-- Discard the oldest record (R62). -/
def State.discardOldest (s : State) : State :=
  { s with passages := { s.passages with records := s.passages.records.tail,
                                         discarded := s.passages.discarded + 1 } }.raise .passageOverflow

/-- Append a record as the newest. -/
def State.appendRecord (s : State) (r : PassageRecord) : State :=
  { s with passages := { s.passages with records := s.passages.records ++ [r] } }

/-- The Passage List takes a departure (R61). -/
def State.takeRecord (s : State) (r : PassageRecord) : State :=
  if s.passages.records.length < 32 then s.appendRecord r else s.discardOldest.appendRecord r

/-! ### Sleeper List: departure and retirement (R48 to R52) -/

/-- An entry departs with an outcome, leaving `rest` in the list (R52). -/
def State.depart (s : State) (e : Entry) (rest : List Entry) (o : PassageOutcome) : State :=
  ({ s with list := { s.list with entries := rest, departed := s.list.departed + 1 } }.takeRecord
    (e.passage o)).raise .entryDeparted

/-- A due head is held back: it is marked deferred, and STRAGGLER is raised once (R49). -/
def State.holdBack (s : State) (e : Entry) (rest : List Entry) : State :=
  if e.deferred then s
  else { s with list := { s.list with entries := { e with deferred := true } :: rest } }.raise .straggler

/-- Retirement from the head onward at an axis, over the entries the list holds (R48). -/
def State.retireFrom (axis : Int) : List Entry → State → State
  | [], s => s
  | e :: rest, s =>
    if !s.isDue axis e then s
    else if s.isHeldBack e then s.holdBack e rest
    else State.retireFrom axis rest (s.depart e rest (s.outcome e))

/-- A retry of retirement with the axis as it stands (R50); at an axis change it is the test of R48. -/
def State.retire (s : State) : State := State.retireFrom s.axis.axis s.list.entries s

/-! ### Sleeper List: writes to an entry (R36) -/

/-- Change the entry with this seq. -/
def State.updateEntry (s : State) (q : SeqNo) (f : Entry → Entry) : State :=
  { s with list := { s.list with entries := s.list.entries.map fun e => if e.seq = q then f e else e } }

/-- Change a lane's record on the entry with this seq. -/
def State.updateLaneRecord (s : State) (q : SeqNo) (x : Lane) (f : LaneRecord → LaneRecord) : State :=
  s.updateEntry q fun e => { e with lanes := e.lanes.modify x f }

/-- Set a lane's status on the entry with this seq. -/
def State.setStatus (s : State) (q : SeqNo) (x : Lane) (st : LaneStatus) : State :=
  s.updateLaneRecord q x fun r => { r with status := st }

/-- A lane's record on the entry with this seq. -/
def State.laneRecord? (s : State) (q : SeqNo) (x : Lane) : Option LaneRecord := (s.entry? q).map fun e => e.lanes.get x

/-- A lane's squeezes done on the entry with this seq; 0 where no entry has it, which R69 rules out (log 23). -/
def State.squeezesDone (s : State) (q : SeqNo) (x : Lane) : Nat :=
  match s.laneRecord? q x with
  | some r => r.squeezes
  | none => 0

/-! ### Sleeper List: creation (R29, R34 to R37, R44) -/

/-- The first value from `q` on that no entry holds, passing over at most `fuel` values (R34). -/
def SleeperList.firstFree (held : List SeqNo) : Nat → SeqNo → SeqNo
  | 0, q => q
  | fuel + 1, q => if q ∈ held then SleeperList.firstFree held fuel (q + 1) else q

/-- The seq that the next entry takes (R34). -/
def SleeperList.takenSeq (l : SleeperList) : SeqNo :=
  SleeperList.firstFree (l.entries.map Entry.seq) l.entries.length l.nextSeq

/-- A new entry with the fields of R35 and R36. -/
def State.newEntry (s : State) (position : Int) (width : Nat) (origin : Origin) (gap : Bool) : Entry where
  seq := s.list.takenSeq
  position := position
  width := width
  origin := origin
  seen := 1
  gap := gap
  kind := .plain
  target := none
  overdue := false
  deferred := false
  lanes := .ofFn fun x => ⟨(s.live.defaultNeed.get x).toNat, 0, .unclaimed, 0⟩

/-- Put an entry in the list at its place in position order (R37). -/
def SleeperList.insert (e : Entry) : List Entry → List Entry
  | [] => [e]
  | f :: rest => if e.position < f.position then e :: f :: rest else f :: SleeperList.insert e rest

/-- No entry lies above this position: an entry put there is the new tail. -/
def State.isTailPosition (s : State) (position : Int) : Bool := s.list.entries.all fun e => e.position < position

/-- Create an entry (R37). A new tail takes the pending gap and clears it; an entry below the tail leaves it
(R29, R44). -/
def State.create (s : State) (position : Int) (width : Nat) (origin : Origin) : State :=
  let tail := s.isTailPosition position
  let e := s.newEntry position width origin (tail && s.list.pendingGap)
  { s with list := { s.list with entries := SleeperList.insert e s.list.entries
                                 nextSeq := e.seq + 1
                                 pendingGap := s.list.pendingGap && !tail
                                 created := s.list.created + 1 } }.raise .entryAdded

/-! ### The Detector Unit's offer (R25 to R29) -/

/-- The entry nearest to the centre within the capture window; of two at the same distance the lower (R26). The list
runs in rising position, so the first of equals is the lower one. -/
def SleeperList.nearest (centre window : Int) : List Entry → Option Entry
  | [] => none
  | e :: rest =>
    let later := SleeperList.nearest centre window rest
    if Flags.within e.position centre window then
      match later with
      | none => some e
      | some f => if (f.position - centre).natAbs < (e.position - centre).natAbs then some f else some e
    else later

/-- A rejected candidate: the reject counter rises and DETECT_REJECT is raised (R22, R23, R25). -/
def State.rejectCandidate (s : State) : State :=
  { s with detector := { s.detector with rejects := s.detector.rejects + 1 } }.raise .detectReject

/-- A candidate lost to a full list (R28, R25). -/
def State.loseCandidate (s : State) : State :=
  let s := { s with list := { s.list with pendingGap := true } }.raise .listFull
  { s with detector := { s.detector with rejects := s.detector.rejects + 1 } }

/-- The tail tests of R27: the candidate is BEHIND, at too close a SPACING, or out of RANGE. -/
def State.tailRejects (s : State) (centre : Int) : Bool :=
  (match s.list.entries.getLast? with
   | none => false
   | some tail => decide (centre ≤ tail.position) || decide (centre - tail.position < s.live.minimumSpacing))
  || decide (2147000000 < centre)

/-- The Sleeper List decides an offer (R26 to R29), and the Detector Unit takes the result (R25). -/
def State.decideOffer (s : State) (centre : Int) (width : Nat) : State :=
  match SleeperList.nearest centre s.live.captureWindow s.list.entries with
  | some e => s.updateEntry e.seq fun e => { e with seen := min (e.seen + 1) 15 }
  | none =>
    if s.tailRejects centre then s.rejectCandidate
    else if 48 ≤ s.list.entries.length then s.loseCandidate
    else s.create centre width .detected

/-- The Detector Unit offers a candidate (R25). -/
def State.offer (s : State) (centre : Int) (width : Nat) : State :=
  { s with detector := { s.detector with candidates := s.detector.candidates + 1 } }.decideOffer centre width

/-- Discard a candidate in flight without counting it (R12, R17, R24). -/
def State.dropInFlight (s : State) : State := { s with detector := { s.detector with inFlight := none } }

/-! ### Lane Controllers (R74, R75, R83, R84, R89) -/

/-- Change one lane. -/
def State.updateLane (s : State) (x : Lane) (f : LaneController → LaneController) : State :=
  { s with lanes := s.lanes.modify x f }

/-- Put a lane in a state; its fault record, squeeze counter and TDN level stay. -/
def State.setLane (s : State) (x : Lane) (st : LaneState) : State := s.updateLane x fun l => { l with state := st }

/-- The end of a claim on seq q by lane x with this status on the entry: the lane enters IDLE, and the Sleeper List
retries retirement (R79, R80, R82, R89). -/
def State.endClaim (s : State) (x : Lane) (q : SeqNo) (st : LaneStatus) : State :=
  ((s.setStatus q x st).setLane x .idle).retire

/-- The entry's side of a lane fault: the named entry's status becomes FAILED, and retirement is retried (R83). -/
def State.failEntry (s : State) (x : Lane) (named : Option SeqNo) : State :=
  match named with
  | none => s
  | some q => (s.setStatus q x .failed).retire

/-- A lane enters FAULT with one cause (R83). A fitted lane that leaves IDLE ends a grant (R117). -/
def State.faultLane (s : State) (x : Lane) (cause : LaneFaultCause) (detail : Nat) : State :=
  let named := (s.lane x).state.named?
  let record : FaultRecord := ⟨cause, named, s.axis.axis, detail, 0⟩
  let s := s.updateLane x fun l => { l with fault := some record, state := .fault }
  ((s.failEntry x named).raise (.laneFault x)).endGrantIfAny

/-- A fault UNPERMITTED_DESCENT, and the freeze cause it hands (R74, R83). -/
def State.unpermittedDescent (s : State) (x : Lane) : State :=
  let named := (s.lane x).state.named?
  (s.faultLane x .unpermittedDescent (s.lane x).state.code).handCause .unpermittedDescent (.lane x) named

/-- A second fault (R84). -/
def State.secondFault (s : State) (x : Lane) : State :=
  (s.updateLane x fun l => { l with fault := l.fault.map fun f =>
      { f with secondFaults := min (f.secondFaults + 1) 15 } }).handCause .unpermittedDescent (.lane x) none

/-- An assertion of the debounced TDN level, taken according to the lane state (R74). An assertion cannot be taken in
DOWN, since a lane in DOWN has its debounced level active; nothing is done there. -/
def State.takeAssertion (s : State) (x : Lane) : State :=
  match (s.lane x).state with
  | .off => s
  | .idle => s.unpermittedDescent x
  | .claimed q =>
    if s.permit x then
      if s.squeezesDone q x < 3 then s.setLane x (.down q 0)
      else s.faultLane x .squeezeOvercount (s.squeezesDone q x)
    else s.unpermittedDescent x
  | .down _ _ => s
  | .orphaned _ => s.unpermittedDescent x
  | .fault => s.secondFault x

/-- A squeeze is counted on the entry and on the lane (R75, R91). -/
def State.countSqueeze (s : State) (x : Lane) (q : SeqNo) : State :=
  (s.updateLaneRecord q x fun r => { r with squeezes := r.squeezes + 1 }).updateLane x fun l =>
    { l with squeezes := l.squeezes + 1 }

/-- A release of the debounced TDN level, taken according to the lane state (R75). -/
def State.takeRelease (s : State) (x : Lane) : State :=
  match (s.lane x).state with
  | .down q _ => (s.countSqueeze x q).setLane x (.claimed q)
  | .orphaned q => s.countSqueeze x q
  | .fault => s
  | .off => s
  | .idle => s
  | .claimed _ => s

/-- The debounce measure of a lane after its line or its polarity may have changed: it runs while the line differs from
the debounced level, and is dropped when the line returns (R74; log 15). -/
def State.remeasure (s : State) (x : Lane) : State :=
  s.updateLane x fun l =>
    { l with debounce := if s.tdnLineActive x = l.tdnActive then none else some (l.debounce.getD 0) }

/-- The debounce time of lane x runs out: the debounced level takes the line's level, an assertion or a release. -/
def State.takeDebounced (s : State) (x : Lane) : State :=
  let active := s.tdnLineActive x
  let s := s.updateLane x fun l => { l with tdnActive := active, debounce := none }
  if active then s.takeAssertion x else s.takeRelease x

/-- The debounce measure of lane x runs and its line is at this debounced level's opposite. -/
def State.measuring (s : State) (x : Lane) (toActive : Bool) : Bool :=
  (s.lane x).debounce.isSome && s.tdnLineActive x = toActive && (s.lane x).tdnActive = !toActive

/-- The revocation of a claim (R89). -/
def State.revoke (s : State) (x : Lane) (q : SeqNo) : State := (s.endClaim x q .unclaimed).raise (.claimRevoked x)

/-- Revoke the claims of the lanes for which `which` gives a seq, lane A first and lane D last. In HOLD DROP every such
claim is on the held entry, and no order is observable (R103). In THAW the lanes may name different entries, and STRAGGLER
tells the orders apart where two of these are due; R130 orders them in no way, and this order is the model's choice
(log 29). -/
def State.revokeEach (which : State → Lane → Option SeqNo) : List Lane → State → State
  | [], s => s
  | x :: xs, s =>
    State.revokeEach which xs
      (match which s x with
       | some q => s.revoke x q
       | none => s)

/-! ### What the end of a timer does (R76, R99, R101, R137) -/

/-- The down timer of lane x expires in DOWN; the detail is the time spent down (R76, R83). -/
def State.expireDown (s : State) (x : Lane) : State :=
  match (s.lane x).state with
  | .down _ ms => s.faultLane x .downTooLong ms
  | _ => s

/-- The lift timer expires in LIFTING (R99). -/
def State.expireLift (s : State) : State :=
  match s.hold with
  | .lifting q t _ => { s with hold := .opening q t }.raise .liftTimeout
  | _ => s

/-- The overdue timer expires in HELD (R101). -/
def State.expireOverdue (s : State) : State :=
  match s.hold with
  | .held q t (some _) =>
    ({ s with hold := .held q t none }.updateEntry q fun e => { e with overdue := true }).raise .holdOverdue
  | _ => s

/-- Change one port. -/
def State.updatePort (s : State) (p : Port) (f : PortState → PortState) : State :=
  { s with ports := s.ports.modify p f }

/-- A lane takes the loss of its port (R86). -/
def State.laneLosesPort (s : State) (x : Lane) : State :=
  match (s.lane x).state with
  | .claimed q => (s.setLane x (.orphaned q)).raise .laneOrphaned
  | .down q _ => ((s.setLane x (.orphaned q)).handCause .orphanDown (.lane x) (some q)).raise .laneOrphaned
  | _ => s

/-- The Hold Unit takes the loss of the GEOMETRY port (R105). -/
def State.holdLosesPort (s : State) (p : Port) : State :=
  match s.hold.named? with
  | some q => s.handCause .geometryLost (.port p) (some q)
  | none => s

/-- The blocks take the loss of a port, by its role (R86, R105, R117). -/
def State.blocksLosePort (s : State) (p : Port) : State :=
  match s.roleOf p with
  | .unit x => s.laneLosesPort x
  | .geometry => s.holdLosesPort p
  | .travel => s.endGrantIfAny
  | .observer => s
  | .unused => s

/-- The presence timer of port p expires in PRESENT (R137). -/
def State.expirePresence (s : State) (p : Port) : State :=
  match (s.ports.get p).presence with
  | .absent => s
  | .present _ =>
    ((s.updatePort p fun v => { v with presence := .absent, keyCount := 0 }).blocksLosePort p).raise .portAbsent

/-! ### What has reached its limit (R74, R76, R99, R101, R137, R150) -/

/-- A running time has reached its limit. -/
def Flags.reached (ms : Option Nat) (limit : Int) : Bool :=
  match ms with
  | none => false
  | some t => limit ≤ (t : Int)

def LaneState.downMs? : LaneState → Option Nat
  | .down _ ms => some ms
  | _ => none

def HoldState.liftMs? : HoldState → Option Nat
  | .lifting _ _ ms => some ms
  | _ => none

def HoldState.overdueMs? : HoldState → Option Nat
  | .held _ _ ms => ms
  | _ => none

def Presence.ms? : Presence → Option Nat
  | .present ms => some ms
  | .absent => none

/-- The timer whose end this command is runs, and its time has reached its limit as that stands: the debounce measure
(R74), the down timer (R76), the lift timer (R99), the overdue timer (R101), the presence timer (R137), the status timer
(R150). A command that finds its timer stopped, restarted or below a raised limit reaches nothing (log 4). -/
def State.reaches (s : State) (c : Instr) : Bool :=
  match c with
  | .assertion x => s.measuring x true && Flags.reached (s.lane x).debounce s.live.tdnDebounce
  | .release x => s.measuring x false && Flags.reached (s.lane x).debounce s.live.tdnDebounce
  | .downTimerExpiry x => Flags.reached (s.lane x).state.downMs? s.live.downLimit
  | .liftTimerExpiry => Flags.reached s.hold.liftMs? s.live.liftTimeout
  | .overdueTimerExpiry => Flags.reached s.hold.overdueMs? s.live.holdOverdue
  | .presenceTimerExpiry p => Flags.reached (s.ports.get p).presence.ms? s.live.presenceInterval
  | .statusTimerExpiry p => Flags.reached (s.events.get p).timer (s.events.get p).interval
  | _ => false

/-- What the end of a timer does, for the timers that a written limit can make expire at once (R155; log 14). -/
def State.runExpiry (s : State) (c : Instr) : State :=
  if s.reaches c then
    match c with
    | .assertion x => s.takeDebounced x
    | .release x => s.takeDebounced x
    | .downTimerExpiry x => s.expireDown x
    | .liftTimerExpiry => s.expireLift
    | .overdueTimerExpiry => s.expireOverdue
    | .presenceTimerExpiry p => s.expirePresence p
    | _ => s
  else s

/-- The ends of the debounce measures. -/
def Flags.debounceEnds : List Instr := Lane.all.map .assertion ++ Lane.all.map .release

/-- The ends of the down timers. -/
def Flags.downEnds : List Instr := Lane.all.map .downTimerExpiry

/-- The ends of the presence timers. -/
def Flags.presenceEnds : List Instr := Port.all.map .presenceTimerExpiry

/-- A list without repeats, each command at its first place. -/
def Flags.nub : List Instr → List Instr
  | [] => []
  | c :: cs => c :: (Flags.nub cs).filter fun d => d ≠ c

/-- The order in which the commands of `due` are taken: any order, given by the free value (R92, R109, R121, R131;
log 5). One command alone leaves no choice. -/
def State.freeOrder (s : State) (due : List Instr) : List Instr :=
  if due.length ≤ 1 then due
  else Flags.nub ((Config.arrivalOrder s.freeCount).filter (fun c => due.contains c) ++ due)

/-- The counter of the free values after an order has been taken; only an order among several uses one up (log 5). -/
def State.countAfter (s : State) (due : List Instr) : Nat :=
  if due.length ≤ 1 then s.freeCount else s.freeCount + 1

/-- The timers whose limit a write has changed and that have reached it (R74, R76, R99, R101, R137; log 14). -/
def State.dueAtOnce (s : State) (old : Settings) : List Instr :=
  ((if s.live.tdnDebounce = old.tdnDebounce then [] else Flags.debounceEnds)
    ++ (if s.live.downLimit = old.downLimit then [] else Flags.downEnds)
    ++ (if s.live.liftTimeout = old.liftTimeout then [] else [Instr.liftTimerExpiry])
    ++ (if s.live.holdOverdue = old.holdOverdue then [] else [Instr.overdueTimerExpiry])
    ++ (if s.live.presenceInterval = old.presenceInterval then [] else Flags.presenceEnds)).filter s.reaches

/-- Those timers expire at once. -/
def State.expireAtOnce (s : State) (old : Settings) : State :=
  let due := s.dueAtOnce old
  (s.freeOrder due).foldl State.runExpiry { s with freeCount := s.countAfter due }

/-! ### Settings that take effect (R17, R24, R70, R74, R155, R158) -/

/-- A change of the edge mode (R24). -/
def State.edgeModeEffect (s : State) (old : Settings) : State :=
  if s.live.edgeMode = old.edgeMode then s else s.dropInFlight

/-- A change of the SDET polarity: the candidate in flight is discarded, then the line's level under the new polarity
is taken without an edge (R17). -/
def State.sdetPolarityEffect (s : State) (old : Settings) : State :=
  if s.live.sdetPolarity = old.sdetPolarity then s
  else { s with detector := { s.detector with inFlight := none, sdetActive := s.sdetLineActive } }

/-- A change of a lane's TDN polarity (R74). -/
def State.tdnPolarityEffect (s : State) (old : Settings) (x : Lane) : State :=
  if s.live.tdnPolarity.get x = old.tdnPolarity.get x then s else s.remeasure x

/-- A change of the fitting of lane x (R70). -/
def State.fittedEffect (s : State) (old : Settings) (x : Lane) : State :=
  match old.lanesFitted.get x, s.live.lanesFitted.get x with
  | false, true =>
    let s := s.setLane x .idle
    if (s.lane x).tdnActive then s.takeAssertion x else s
  | true, false => s.setLane x .off
  | _, _ => s

/-- The blocks act on newly written live settings where their chapters give an immediate effect (R155). Where one write
newly fits several lanes whose debounced level is active, lane A takes its assertion first and D last: no rule orders
them, and this order is the model's choice (log 27). Where one RELOAD changes several settings,
their effects come in the order written here, the model's choice as well (log 32). -/
def State.settingsEffect (s : State) (old : Settings) : State :=
  let s := (s.edgeModeEffect old).sdetPolarityEffect old
  let s := Lane.all.foldl (fun s x => s.tdnPolarityEffect old x) s
  let s := Lane.all.foldl (fun s x => s.fittedEffect old x) s
  s.expireAtOnce old

/-- Write new live settings and let them take effect (R155, R158). -/
def State.writeSettings (s : State) (new : Settings) : State :=
  let old := s.live
  if new = old then s else { s with store := { s.store with live := new } }.settingsEffect old

/-! ### The Port Interface: arrival of a frame (R134, R135, R137) -/

/-- A 16-bit counter that saturates (R134). -/
def SatCounter.rise (c : SatCounter) : SatCounter :=
  if c.count = 0xFFFF then ⟨c.count, true⟩ else ⟨c.count + 1, c.full || c.count + 1 = 0xFFFF⟩

/-- A valid frame refreshes the presence of its port; on an ABSENT port it makes it PRESENT (R137). -/
def State.refreshPresence (s : State) (p : Port) : State :=
  match (s.ports.get p).presence with
  | .present _ => s.updatePort p fun v => { v with presence := .present 0 }
  | .absent => (s.updatePort p fun v => { v with presence := .present 0 }).raise .portPresent

/-- Put a frame in its port's queue, or drop it when the queue holds 4 (R135). -/
def State.enqueue (s : State) (p : Port) (r : Request) : State :=
  if (s.ports.get p).queue.length < 4 then s.updatePort p fun v => { v with queue := v.queue ++ [r] }
  else (s.updatePort p fun v => { v with overruns := v.overruns.rise }).raise (.queueOverrun p)

/-- A valid frame arrives (R135). -/
def State.frameArrives (s : State) (p : Port) (r : Request) : State := (s.refreshPresence p).enqueue p r

/-- One byte arrives on a port (R133). -/
def State.receiveByte (s : State) (p : Port) (b : RxByte) : State :=
  let (rx, ev) := Frames.receive (s.ports.get p).rx b
  let s := s.updatePort p fun v => { v with rx := rx }
  match ev with
  | .nothing => s
  | .discarded => s.updatePort p fun v => { v with frameErrors := v.frameErrors.rise }
  | .valid body => s.frameArrives p (.ofBody body)

/-- Bytes arrive on a port, one after the other. -/
def State.receiveBytes (s : State) (p : Port) (bytes : List RxByte) : State :=
  bytes.foldl (fun s b => s.receiveByte p b) s

/-! ### The Port Interface: sending (R136, R150) -/

/-- A response is formed: it begins to be sent at once on a free line, and waits otherwise (R136). -/
def State.sendResponse (s : State) (p : Port) (f : TxFrame) : State :=
  s.updatePort p fun v =>
    match v.sending with
    | none => { v with sending := some f }
    | some _ => { v with response := some f }

/-- A status frame is formed: it begins to be sent at once on a free line, and waits otherwise (R136, R150). -/
def State.sendStatus (s : State) (p : Port) (f : TxFrame) : State :=
  s.updatePort p fun v =>
    match v.sending with
    | none => { v with sending := some f }
    | some _ => { v with status := some f }

/-- The frame that follows on a port whose line has become free. With a response and a status frame both waiting the
order is open: `statusFirst` (R136). -/
def PortState.sendNext (v : PortState) (statusFirst : Bool) : PortState :=
  match v.response, v.status with
  | none, none => { v with sending := none }
  | some r, none => { v with sending := some r, response := none }
  | none, some t => { v with sending := some t, status := none }
  | some r, some t =>
    if statusFirst then { v with sending := some t, status := none }
    else { v with sending := some r, response := none }

/-! ### The Port Interface: taking a request (R136, R139, R141, R142) -/

/-- What taking a request does to the key window of its port (R141). -/
inductive KeyUse where
  | useCount | openWindow | closeWindow
deriving DecidableEq, Repr

/-- The key count after a request has been taken (R141). -/
def KeyUse.apply (k : KeyUse) (count : Nat) : Nat :=
  match k with
  | .useCount => count - 1
  | .openWindow => 3
  | .closeWindow => 0

/-- The judgement of a request and what it has done: the state after it, the result, the data of its response, its use
of the key window, and what its response frame is (none: an accepted SAVE is answered when its write completes). -/
structure Reply where
  state : State
  result : Result
  data : List Byte
  key : KeyUse
  frame : Option TxKind

/-- An answer that uses one count of the key window, as every request but KEY does (R141). -/
def Reply.answer (s : State) (result : Result) (data : List Byte) : Reply :=
  ⟨s, result, data, .useCount, some .response⟩

/-- A refusal: no data, and nothing changed (R142). -/
def Reply.refuse (s : State) (r : Result) : Reply := Reply.answer s r []

/-- All checks judged together: the lowest-numbered refusal among those that fail, or the answer (R142). -/
def Reply.judge (s : State) (checks : List (Bool × Result)) (accepted : Reply) : Reply :=
  match Operands.lowestRefusal checks with
  | some r => Reply.refuse s r
  | none => accepted

/-- The port may take its next request: RSTN is released, no response of the port waits to be sent, and no SAVE or
RESTART of the port holds its queue (R136). -/
def State.mayTake (s : State) (p : Port) : Bool :=
  !s.inReset && (s.ports.get p).response.isNone
    && (match s.store.save with
        | some v => v.port ≠ p
        | none => true)
    && (match s.restart with
        | some v => v.port ≠ p
        | none => true)

/-- The request that port p hands on when it takes a request of this kind: the frame at the front of its queue, when
the port may take it and `isCode` accepts its code (R136; log 1). -/
def State.front? (s : State) (p : Port) (isCode : Byte → Bool) : Option Request :=
  if s.mayTake p then
    match (s.ports.get p).queue with
    | r :: _ => if isCode r.code then some r else none
    | [] => none
  else none

/-- The frame at the front leaves the queue (R135). -/
def State.popQueue (s : State) (p : Port) : State := s.updatePort p fun v => { v with queue := v.queue.tail }

/-- Use of the key window of port p (R141). -/
def State.useKey (s : State) (p : Port) (k : KeyUse) : State :=
  s.updatePort p fun v => { v with keyCount := k.apply v.keyCount }

/-- A request has been judged: its use of the key window, then its response (R136, R141, R142). -/
def State.respond (p : Port) (r : Request) (a : Reply) : State :=
  match a.frame with
  | none => a.state.useKey p a.key
  | some kind => (a.state.useKey p a.key).sendResponse p ⟨kind, Operands.responseBody r a.result a.data⟩

/-- Port p takes the request at the front of its queue, when its code is the one given: the request leaves the queue,
is judged by its owner, and is answered (R136). Otherwise nothing is taken (log 2). -/
def State.takeRequest (s : State) (p : Port) (code : Byte) (judge : State → Request → Reply) : State :=
  match s.front? p (fun c => c = code) with
  | none => s
  | some r => (State.respond p r (judge (s.popQueue p) r)).settle

/-! ### Reset (R14, R16, R32, R33, R59, R68, R93, R94, R111, R123, R132, R143, R153, R159, R160) -/

/-- A lane's reset values under the lanes-fitted setting (R68). -/
def State.resetLane (s : State) (x : Lane) : LaneController :=
  { LaneController.reset with state := if s.isFitted x then .idle else .off }

/-- A port's items of the Event Unit at a reset: the status interval is taken from the default status interval
setting (R146, R153). -/
def State.resetEvents (s : State) : EventPort :=
  let i := s.live.defaultStatusInterval
  ⟨0, 0, i, if i = 0 then none else some 0⟩

/-- Every block takes its reset values from the live settings, and the Freeze Unit writes its record and is FROZEN
(R159 steps 3 and 4); the ports are given by the caller (R143). -/
def State.resetBlocks (s : State) (ports : PerPort PortState) (cause : FreezeCause) (source : FreezeSource) : State :=
  { s with
    axis := ⟨0, 0, .forward⟩
    detector := ⟨s.detector.sdetActive, none, none, 0, 0⟩
    list := ⟨[], 1, false, 0, 0, 0, false⟩
    passages := ⟨[], 0, 0⟩
    lanes := .ofFn s.resetLane
    hold := .free
    motion := ⟨.halt, 0⟩
    freeze := ⟨.frozen, cause, source, 0, none, 0, none⟩
    ports := ports
    restart := none
    events := .replicate s.resetEvents
    store := { s.store with save := none } }

/-- The samples after STARTED: SDET without an edge (R32), FRZIN (R127), and the start of the debounce measures
(R93). -/
def State.sampleLines (s : State) : State :=
  let s := { s with detector := { s.detector with sdetActive := s.sdetLineActive } }
  let s := if s.frzinActive then s.handCause .line .frzin none else s
  Lane.all.foldl State.remeasure s

/-- A port after RESTART: its counters are kept, a frame already begun is sent to its end, and what has not begun is
not sent (R143; a waiting status frame: log 13). R143 says so of frames begun on other ports; that a status frame which
began on RESTART's own port after the response had ended is also sent to its end is the model's choice (log 30). -/
def PortState.restarted (v : PortState) : PortState :=
  { PortState.reset with frameErrors := v.frameErrors, overruns := v.overruns, sending := v.sending }

/-- A full reset stops the write of a save in flight, and the image is left invalid (R157). -/
def State.stopWrite (s : State) : State :=
  match s.store.save with
  | none => s
  | some _ => { s with store := { s.store with save := none, image := .torn } }

/-- The event that reading the store raises (R158). -/
def ImageState.event? : ImageState → Option Event
  | .valid => none
  | .blank => some .storeBlank
  | .invalid => some .storeInvalid

/-- Raise an event, or none. -/
def State.raise? (s : State) (e : Option Event) : State :=
  match e with
  | none => s
  | some e => s.raise e

end Sys2Proof.Machine
end

