-- ==== Sys2Proof/Machine/Lines.lean ====
section
/-! DEFINITION. The meanings of the line events: odometer pulses, sleeper detector edges, tine-depth lines, FRZIN. A
line that does not change, and any line while RSTN is held, gives the blocks nothing (R159; log 2, log 16). -/

namespace Sys2Proof.Machine

/-! ### PULSE (R2 to R9, R23, R48, R116, R118) -/

/-- The direction of a pulse, from the level of ODB and the direction sign (R2). -/
def AxisUnit.pulseDirection (sign : DirectionSign) (odb : Level) : Direction :=
  match sign, odb with
  | .highForward, .high => .forward
  | .highForward, .low => .reverse
  | .highReverse, .high => .reverse
  | .highReverse, .low => .forward

/-- The extension of a pulse applied at phase g under pattern P (R3). -/
def AxisUnit.extension (pattern : Int) (g : Fin 4) : Int :=
  if pattern = 1 then (if g = 1 then 1 else 0)
  else if pattern = 2 then (if g = 0 ∨ g = 2 then 1 else 0)
  else if pattern = 3 then (if g = 3 then 0 else 1)
  else 0

/-- The Axis Unit after a pulse, before the axis limit is tested (R4, R5). -/
def AxisUnit.afterPulse (u : AxisUnit) (base pattern : Int) (d : Direction) : AxisUnit :=
  match d with
  | .forward => ⟨u.axis + (base + AxisUnit.extension pattern u.phase), u.phase + 1, .forward⟩
  | .reverse => ⟨u.axis - (base + AxisUnit.extension pattern (u.phase - 1)), u.phase - 1, .reverse⟩

/-- The value lies within the axis limit (R9, R11). -/
def AxisUnit.inLimit (axis : Int) : Bool := decide (-2147000000 ≤ axis) && decide (axis ≤ 2147000000)

/-- The Detector Unit takes a PULSE axis change: a reverse pulse discards a candidate in flight (R23). -/
def State.detectorWatch (s : State) (d : Direction) : State :=
  match d, s.detector.inFlight with
  | .reverse, some _ => s.dropInFlight.rejectCandidate
  | _, _ => s

/-- The Motion Unit takes a PULSE axis change: the grant's distance in GRANTED (R116), creep in HALT (R118). -/
def State.motionWatch (s : State) : State :=
  match s.motion.state with
  | .granted start distance =>
    if (distance : Int) ≤ (s.axis.axis - start).natAbs then s.endGrant else s
  | .halt =>
    if s.live.creepTolerance < (s.axis.axis - s.motion.haltPoint).natAbs then
      if s.underLoad then s.handCause .creepUnderLoad .nowhere s.hold.named?
      else s.haltAtAxis.raise .creep
    else s

/-- The command right behind this one is an edge of SDET: a pulse and the edge arrive together (R31; log 31). -/
def State.edgeBehind (s : State) : Bool :=
  match s.pending with
  | .activeEdge :: _ => true
  | .inactiveEdge :: _ => true
  | _ => false

/-- The Sleeper List takes a PULSE axis change: it tests its head (R48). Where an edge arrives together with the pulse, the
candidate that the edge makes at the new axis may be offered first, and the change then waits for it (R31). -/
def State.listWatch (s : State) : State :=
  if s.edgeBehind then
    let t := { s with freeCount := s.freeCount + 1 }
    if Config.offerFirst s.freeCount then { t with list := { t.list with changeWaits := true } } else t.retire
  else s.retire

/-- The Sleeper List takes the axis change that has waited for a candidate, with the axis as it stands (R31, R48). -/
def State.takeChange (s : State) : State :=
  match s.inReset, s.list.changeWaits with
  | true, _ => s
  | false, false => s
  | false, true => ({ s with list := { s.list with changeWaits := false } } : State).retire.settle

/-- A pulse that the axis limit allows has been applied: REVERSED at a turn to REVERSE (R6), then the axis change to
the watchers (R7); the Lane Controllers' part is `settle`. -/
def State.axisChange (s : State) (before : Direction) : State :=
  let s := if before = .forward ∧ s.axis.direction = .reverse then s.raise .reversed else s
  ((s.detectorWatch s.axis.direction).listWatch).motionWatch

/-- A pulse is taken (R2, R9). -/
def State.takePulse (s : State) : State :=
  let u := s.axis.afterPulse s.live.scalerBase s.live.scalerPattern
    (AxisUnit.pulseDirection s.live.directionSign s.pins.odb)
  if AxisUnit.inLimit u.axis then { s with axis := u }.axisChange s.axis.direction
  else s.handCause .axisLimit .nowhere none

/-- PULSE (R2). -/
def execPulse (odb : Level) (s : State) : Host.Outcome State Fault Refusal :=
  let s := { s with pins := { s.pins with odb := odb } }
  .next (if s.inReset then s else s.takePulse.settle)

/-! ### Sleeper detector edges (R17 to R22) -/

/-- The command right behind this one takes an AXIS PRESET that waits at its port: the two arrive together (R13;
log 26). -/
def State.presetBehind (s : State) : Bool :=
  match s.pending with
  | .axisPreset p :: _ => (s.front? p fun c => c = 0x37).isSome
  | _ => false

/-- An edge has made a candidate. It is offered at once (R19, R20, R22); where an AXIS PRESET arrives together with the
edge, the preset may be taken first, and the candidate then waits for it with the centre it has (R13). -/
def State.makeCandidate (s : State) (c : Candidate) : State :=
  if s.presetBehind then
    let t := { s with freeCount := s.freeCount + 1 }
    if Config.presetFirst s.freeCount then { t with detector := { t.detector with made := some c } }
    else t.offer c.centre c.width
  else s.offer c.centre c.width

/-- An active edge in its edge mode, in forward travel (R19 to R21). -/
def State.takeActiveEdge (s : State) : State :=
  match s.live.edgeMode with
  | .leading => s.makeCandidate ⟨s.axis.axis + s.live.nominalWidth / 2 + s.live.detectorLead, 0⟩
  | .trailing => s
  | .both => { s with detector := { s.detector with inFlight := some s.axis.axis } }

/-- The candidate in flight closes (R22). -/
def State.closeInFlight (s : State) (a1 : Int) : State :=
  let a2 := s.axis.axis
  let width := a2 - a1
  let s := s.dropInFlight
  if width < s.live.widthMin ∨ s.live.widthMax < width then s.rejectCandidate
  else s.makeCandidate ⟨(a1 + a2) / 2 + s.live.detectorLead, width.toNat⟩

/-- An inactive edge in its edge mode, in forward travel (R19, R20, R22). -/
def State.takeInactiveEdge (s : State) : State :=
  match s.live.edgeMode with
  | .leading => s
  | .trailing => s.makeCandidate ⟨s.axis.axis - s.live.nominalWidth / 2 + s.live.detectorLead, 0⟩
  | .both =>
    match s.detector.inFlight with
    | none => s
    | some a1 => s.closeInFlight a1

/-- The Detector Unit takes a change of its line: the SDET level first, then the edge in forward travel (R17, R18). -/
def State.takeEdge (s : State) (active : Bool) : State :=
  let s := { s with detector := { s.detector with sdetActive := active } }
  match s.axis.direction with
  | .reverse => s
  | .forward => if active then s.takeActiveEdge else s.takeInactiveEdge

/-- The line goes to this level under the polarity in use; a line already there gives nothing (R17; log 2). -/
def State.sdetEdge (s : State) (active : Bool) : State :=
  if s.sdetLineActive = active then s
  else
    let level := if active then s.live.sdetPolarity.activeLevel else s.live.sdetPolarity.inactiveLevel
    let s := { s with pins := { s.pins with sdet := level } }
    if s.inReset then s else (s.takeEdge active).settle

/-- ACTIVE_EDGE (R17, R19, R21, R31). -/
def execActiveEdge (s : State) : Host.Outcome State Fault Refusal := .next (s.sdetEdge true).takeChange

/-- INACTIVE_EDGE (R17, R20, R22, R31). -/
def execInactiveEdge (s : State) : Host.Outcome State Fault Refusal := .next (s.sdetEdge false).takeChange

/-! ### Tine-depth lines (R74, R75) -/

/-- TDN_LINE_CHANGE (R74). -/
def execTdnLineChange (x : Lane) (level : Level) (s : State) : Host.Outcome State Fault Refusal :=
  if s.pins.tdn.get x = level then .next s
  else
    let s := { s with pins := { s.pins with tdn := s.pins.tdn.set x level } }
    .next (if s.inReset then s else (s.remeasure x).settle)

/-- ASSERTION (R74): acts once the line has held its level for the debounce time as it stands (log 4). -/
def execAssertion (x : Lane) (s : State) : Host.Outcome State Fault Refusal :=
  .next (if !s.inReset && s.reaches (.assertion x) then (s.takeDebounced x).settle else s)

/-- RELEASE (R74, R75): acts once the line has held its level for the debounce time as it stands (log 4). -/
def execRelease (x : Lane) (s : State) : Host.Outcome State Fault Refusal :=
  .next (if !s.inReset && s.reaches (.release x) then (s.takeDebounced x).settle else s)

/-! ### FRZIN (R127) -/

/-- FRZIN_ASSERTION (R127): a line already active asserts nothing. -/
def execFrzinAssertion (s : State) : Host.Outcome State Fault Refusal :=
  if s.frzinActive then .next s
  else
    let s := { s with pins := { s.pins with frzin := .low } }
    .next (if s.inReset then s else (s.handCause .line .frzin none).settle)

/-- FRZIN_RELEASE (R127): only the level changes. -/
def execFrzinRelease (s : State) : Host.Outcome State Fault Refusal :=
  .next { s with pins := { s.pins with frzin := .high } }

end Sys2Proof.Machine
end

