-- ==== Sys2Proof/Machine/Reads.lean ====
section
/-! DEFINITION. The meanings of the requests that only read: READ STATE, READ ENTRY, READ REGISTER, READ PASSAGES, READ
COUNTERS, READ SETTING, READ FAULT (R46, R47, R63, R85, R151, R152, R156). -/

namespace Sys2Proof.Machine

/-- The port holds no READ right. -/
def State.lacksRead (s : State) (p : Port) : Bool := !(s.portRole p).read

/-- The judgement of READ STATE (R151). -/
def State.judgeReadState (s : State) (r : Request) : Reply :=
  match r.params with
  | [] => Reply.answer s .accepted (s.stateBlock ++ s.freeze.carried)
  | _ => Reply.refuse s .malformed

/-- READ STATE (R151). -/
def execReadState (p : Port) (s : State) : Host.Outcome State Fault Refusal :=
  .next (s.takeRequest p 0x02 State.judgeReadState)

/-- The judgement of READ ENTRY (R46). -/
def State.judgeReadEntry (p : Port) (s : State) (r : Request) : Reply :=
  match r.params with
  | [hi, lo] =>
    let q := Operands.word hi lo
    Reply.judge s [(s.lacksRead p, .noRight), ((s.entry? q).isNone, .unknownEntry)]
      (match s.entry? q with
       | some e => Reply.answer s .accepted (e.carried (s.indexOf q))
       | none => Reply.refuse s .unknownEntry)
  | _ => Reply.refuse s .malformed

/-- READ ENTRY (R46). -/
def execReadEntry (p : Port) (s : State) : Host.Outcome State Fault Refusal :=
  .next (s.takeRequest p 0x06 (State.judgeReadEntry p))

/-- Entries as carried, each with its index, from the index given. -/
def Entry.carriedFrom (index : Nat) : List Entry → List Byte
  | [] => []
  | e :: rest => e.carried index ++ Entry.carriedFrom (index + 1) rest

/-- A count of 1..4 (R47, R63, R64). -/
def Operands.countInRange (n : Byte) : Bool := decide (1 ≤ n.toNat) && decide (n.toNat ≤ 4)

/-- The judgement of READ REGISTER (R47). -/
def State.judgeReadRegister (p : Port) (s : State) (r : Request) : Reply :=
  match r.params with
  | [index, count] =>
    Reply.judge s [(!Operands.countInRange count, .malformed), (s.lacksRead p, .noRight)]
      (Reply.answer s .accepted
        (Operands.carry1 s.list.entries.length
          ++ Entry.carriedFrom index.toNat ((s.list.entries.drop index.toNat).take count.toNat)))
  | _ => Reply.refuse s .malformed

/-- READ REGISTER (R47). -/
def execReadRegister (p : Port) (s : State) : Host.Outcome State Fault Refusal :=
  .next (s.takeRequest p 0x07 (State.judgeReadRegister p))

/-- The data that READ PASSAGES and TAKE PASSAGES return: records held, discarded, records returned, the records
(R63, R64, R145). -/
def PassageList.reply (held : Nat) (discarded : Count32) (records : List PassageRecord) : List Byte :=
  Operands.carry1 held ++ Operands.carry4 discarded ++ Operands.carry1 records.length
    ++ records.flatMap PassageRecord.carried

/-- The judgement of READ PASSAGES (R63). -/
def State.judgeReadPassages (p : Port) (s : State) (r : Request) : Reply :=
  match r.params with
  | [count] =>
    Reply.judge s [(!Operands.countInRange count, .malformed), (s.lacksRead p, .noRight)]
      (Reply.answer s .accepted
        (PassageList.reply s.passages.records.length s.passages.discarded (s.passages.records.take count.toNat)))
  | _ => Reply.refuse s .malformed

/-- READ PASSAGES (R63). -/
def execReadPassages (p : Port) (s : State) : Host.Outcome State Fault Refusal :=
  .next (s.takeRequest p 0x08 (State.judgeReadPassages p))

/-- A port's counters as READ COUNTERS carries them (R152). -/
def PortState.counters (v : PortState) : List Byte :=
  Operands.carry2 v.frameErrors.count ++ Operands.carry2 v.overruns.count
    ++ [BitVec.ofNat 8 ((if v.frameErrors.full then 1 else 0) + (if v.overruns.full then 2 else 0))]

/-- Every counter of the part, 74 bytes (R152). -/
def State.counters (s : State) : List Byte :=
  Operands.carry4 s.list.created ++ Operands.carry4 s.list.departed ++ Operands.carry4 s.list.flushed
    ++ Operands.carry4 s.passages.taken ++ Operands.carry4 s.passages.discarded
    ++ Operands.carry4 s.detector.candidates ++ Operands.carry4 s.detector.rejects
    ++ (s.lanes.toList.flatMap fun l => Operands.carry4 l.squeezes)
    ++ s.ports.toList.flatMap PortState.counters

/-- The judgement of READ COUNTERS (R152). -/
def State.judgeReadCounters (p : Port) (s : State) (r : Request) : Reply :=
  match r.params with
  | [] => Reply.judge s [(s.lacksRead p, .noRight)] (Reply.answer s .accepted s.counters)
  | _ => Reply.refuse s .malformed

/-- READ COUNTERS (R152). -/
def execReadCounters (p : Port) (s : State) : Host.Outcome State Fault Refusal :=
  .next (s.takeRequest p 0x09 (State.judgeReadCounters p))

/-- The judgement of READ SETTING (R156). -/
def State.judgeReadSetting (p : Port) (s : State) (r : Request) : Reply :=
  match r.params with
  | [n] =>
    match s.live.read? n.toNat with
    | none => Reply.refuse s .malformed
    | some v => Reply.judge s [(s.lacksRead p, .noRight)] (Reply.answer s .accepted (n :: Operands.carryAxis v))
  | _ => Reply.refuse s .malformed

/-- READ SETTING (R156). -/
def execReadSetting (p : Port) (s : State) : Host.Outcome State Fault Refusal :=
  .next (s.takeRequest p 0x0A (State.judgeReadSetting p))

/-- The judgement of READ FAULT (R85). -/
def State.judgeReadFault (p : Port) (s : State) (r : Request) : Reply :=
  match r.params with
  | [b] =>
    match Lane.ofCode? b with
    | none => Reply.refuse s .malformed
    | some x => Reply.judge s [(s.lacksRead p, .noRight)] (Reply.answer s .accepted ((s.lane x).carriedFault x))
  | _ => Reply.refuse s .malformed

/-- READ FAULT (R85). -/
def execReadFault (p : Port) (s : State) : Host.Outcome State Fault Refusal :=
  .next (s.takeRequest p 0x0B (State.judgeReadFault p))

end Sys2Proof.Machine
end

