-- ==== Sys2Proof/Machine/ListRequests.lean ====
section
/-! DEFINITION. The meanings of the requests on the Sleeper List, the Passage List and the axis: ANNOTATE, PLACE,
STRIKE, TAKE PASSAGES, FLUSH, AXIS PRESET (R11, R12, R39 to R45, R56, R64). -/

namespace Sys2Proof.Machine

/-- The port's role is not GEOMETRY. -/
def State.notGeometry (s : State) (p : Port) : Bool := s.roleOf p ≠ .geometry

/-- The checks of the Port Interface on a protected request that needs quiescence (R139, R141, R142). -/
def State.protectedChecks (s : State) (p : Port) : List (Bool × Result) :=
  [(!(s.portRole p).setup, .noRight), (!s.keyOpen p, .protectedRequest), (!s.quiescent, .notQuiescent)]

/-! ### ANNOTATE (R38 to R41) -/

/-- The lift-target selector (R39). -/
inductive LiftSelector where
  | absent
  | given (t : LiftTarget)
  | unchanged
deriving DecidableEq, Repr

/-- What ANNOTATE carries, or the values taken from it. -/
structure Annotation where
  kind : Kind
  needs : PerLane Nat
  masks : PerLane (BitVec 4)
  selector : LiftSelector
deriving DecidableEq, Repr

/-- A need under the kind rule, after legalisation into 0..3 (R38, R39). -/
def Kind.needTaken (k : Kind) (written : Nat) : Nat :=
  match k with
  | .plain => min written 3
  | .bearer => if min written 3 = 1 then 2 else min written 3
  | .omitted => 0

/-- A lift target legalised: lifts to at most 200, the line to the nearer of -150 and +150 (R39). -/
def LiftTarget.legalised (t : LiftTarget) : LiftTarget :=
  ⟨min t.left 200, min t.right 200, Domain.clamp (-150) 150 t.line⟩

def LiftSelector.legalised : LiftSelector → LiftSelector
  | .absent => .absent
  | .given t => .given t.legalised
  | .unchanged => .unchanged

/-- The selector byte with the lift bytes; none outside its three values. The lift bytes are read only for PRESENT
(R39, R144). -/
def LiftSelector.ofBytes? (sel left right hi lo : Byte) : Option LiftSelector :=
  if sel = 0 then some .absent
  else if sel = 1 then some (.given ⟨left.toNat, right.toNat, Operands.signed2 hi lo⟩)
  else if sel = 2 then some .unchanged
  else none

/-- The lift target the entry holds after the selector is applied (R41). -/
def LiftSelector.apply (sel : LiftSelector) (held : Option LiftTarget) : Option LiftTarget :=
  match sel with
  | .absent => none
  | .given t => some t
  | .unchanged => held

/-- The entry with an annotation's values written (R41). -/
def Entry.annotated (e : Entry) (a : Annotation) : Entry :=
  { e with
    kind := a.kind
    lanes := .ofFn fun x => { e.lanes.get x with need := a.needs.get x, mask := a.masks.get x }
    target := a.selector.apply e.target }

/-- For some lane whose status is not OPEN, the need or mask taken differs from the one held (R40). -/
def Entry.laneConflict (e : Entry) (a : Annotation) : Bool :=
  Lane.all.any fun x =>
    (e.lanes.get x).status ≠ .unclaimed
      && ((e.lanes.get x).need ≠ a.needs.get x || (e.lanes.get x).mask ≠ a.masks.get x)

/-- The lift target taken differs from the one the entry holds (R40); UNCHANGED never differs. -/
def Entry.targetConflict (e : Entry) (a : Annotation) : Bool := a.selector.apply e.target ≠ e.target

/-- ANNOTATE on the values taken (R40, R41). -/
def State.annotate (p : Port) (s : State) (q : SeqNo) (a : Annotation) (adjusted : Bool) : Reply :=
  let e? := s.entry? q
  Reply.judge s
    [(s.notGeometry p, .noRight), (s.frozen, .frozen), (e?.isNone, .unknownEntry),
     (e?.any fun e => e.laneConflict a, .wrongState),
     (e?.any fun e => decide (s.hold.named? = some q) && e.targetConflict a, .wrongState)]
    (match e? with
     | none => Reply.refuse s .unknownEntry
     | some e =>
       Reply.answer (s.updateEntry q fun e => e.annotated a) (Operands.taken adjusted)
         ((e.annotated a).carried (s.indexOf q)))

/-- The judgement of ANNOTATE: the parameters, their legalisation and the kind rule (R39). -/
def State.judgeAnnotate (p : Port) (s : State) (r : Request) : Reply :=
  match r.params with
  | [qh, ql, kb, na, nb, nc, nd, ma, mb, mc, md, sel, left, right, lh, ll] =>
    match Kind.ofCode? kb, LiftSelector.ofBytes? sel left right lh ll with
    | some kind, some selector =>
      let needs : PerLane Nat := ⟨na.toNat, nb.toNat, nc.toNat, nd.toNat⟩
      let masks : PerLane Byte := ⟨ma, mb, mc, md⟩
      let a : Annotation := ⟨kind, needs.map kind.needTaken, masks.map fun m => m.extractLsb' 0 4, selector.legalised⟩
      let adjusted := needs ≠ a.needs || masks ≠ a.masks.map (fun m => 0#4 ++ m) || selector ≠ a.selector
      s.annotate p (Operands.word qh ql) a adjusted
    | _, _ => Reply.refuse s .malformed
  | _ => Reply.refuse s .malformed

/-- ANNOTATE (R39 to R41). -/
def execAnnotate (p : Port) (s : State) : Host.Outcome State Fault Refusal :=
  .next (s.takeRequest p 0x10 (State.judgeAnnotate p))

/-! ### PLACE (R42 to R44) -/

/-- An entry lies within the capture window of the position (R43). -/
def State.duplicates (s : State) (position : Int) : Bool :=
  s.list.entries.any fun e => Flags.within e.position position s.live.captureWindow

/-- The nearest entry below or above lies less than the minimum spacing from the position (R43). -/
def State.crowds (s : State) (position : Int) : Bool :=
  s.list.entries.any fun e => Flags.within e.position position (s.live.minimumSpacing - 1)

/-- PLACE at a position with the width written (R43, R44). -/
def State.place (p : Port) (s : State) (position : Int) (width : Nat) : Reply :=
  Reply.judge s
    [(!AxisUnit.inLimit position, .malformed), (s.notGeometry p, .noRight), (s.frozen, .frozen),
     (decide (position + s.live.retireDistance < s.axis.axis), .outOfWindow), (s.duplicates position, .duplicate),
     (s.crowds position, .spacing), (decide (48 ≤ s.list.entries.length), .full)]
    (let q := s.list.takenSeq
     let t := s.create position (min width 600) .placed
     Reply.answer t (Operands.taken (600 < width)) (Operands.carry2 q ++ Operands.carry1 (t.indexOf q)))

/-- The judgement of PLACE (R42). -/
def State.judgePlace (p : Port) (s : State) (r : Request) : Reply :=
  match r.params with
  | [b3, b2, b1, b0, wh, wl] => s.place p (Operands.signed4 b3 b2 b1 b0) (Operands.word wh wl).toNat
  | _ => Reply.refuse s .malformed

/-- PLACE (R42 to R44). -/
def execPlace (p : Port) (s : State) : Host.Outcome State Fault Refusal :=
  .next (s.takeRequest p 0x11 (State.judgePlace p))

/-! ### STRIKE (R45) -/

/-- Some lane record has a status other than OPEN, or squeezes done other than 0. -/
def Entry.touched (e : Entry) : Bool := e.lanes.toList.any fun r => r.status ≠ .unclaimed || r.squeezes ≠ 0

/-- The entry departs STRUCK, then retirement is retried (R45). -/
def State.strikeEntry (s : State) (e : Entry) : State :=
  (s.depart e (s.list.entries.eraseP fun f => f.seq = e.seq) .struck).retire

/-- The judgement of STRIKE (R45). -/
def State.judgeStrike (p : Port) (s : State) (r : Request) : Reply :=
  match r.params with
  | [hi, lo] =>
    let q := Operands.word hi lo
    let e? := s.entry? q
    Reply.judge s
      [(s.notGeometry p, .noRight), (s.frozen, .frozen), (e?.isNone, .unknownEntry), (e?.any Entry.touched, .wrongState),
       (decide (s.hold.named? = some q), .wrongState)]
      (match e? with
       | none => Reply.refuse s .unknownEntry
       | some e => Reply.answer (s.strikeEntry e) .accepted (Operands.carry2 q))
  | _ => Reply.refuse s .malformed

/-- STRIKE (R45). -/
def execStrike (p : Port) (s : State) : Host.Outcome State Fault Refusal :=
  .next (s.takeRequest p 0x12 (State.judgeStrike p))

/-! ### TAKE PASSAGES (R64) -/

/-- Remove the oldest n records; taken rises by the number removed (R64, R66). -/
def State.takeOldest (s : State) (n : Nat) : State :=
  { s with passages := { s.passages with
      records := s.passages.records.drop n
      taken := s.passages.taken + BitVec.ofNat 32 (s.passages.records.take n).length } }

/-- The judgement of TAKE PASSAGES (R64). -/
def State.judgeTakePassages (p : Port) (s : State) (r : Request) : Reply :=
  match r.params with
  | [count] =>
    Reply.judge s [(!Operands.countInRange count, .malformed), (s.notGeometry p, .noRight)]
      (let t := s.takeOldest count.toNat
       Reply.answer t .accepted
         (PassageList.reply t.passages.records.length t.passages.discarded (s.passages.records.take count.toNat)))
  | _ => Reply.refuse s .malformed

/-- TAKE PASSAGES (R64). -/
def execTakePassages (p : Port) (s : State) : Host.Outcome State Fault Refusal :=
  .next (s.takeRequest p 0x13 (State.judgeTakePassages p))

/-! ### FLUSH (R56) -/

/-- Every entry is removed, flushed rises by their number, and the pending gap clears (R56). -/
def State.flushList (s : State) : State :=
  { s with list := { s.list with entries := []
                                 flushed := s.list.flushed + BitVec.ofNat 32 s.list.entries.length
                                 pendingGap := false } }

/-- The judgement of FLUSH (R56). -/
def State.judgeFlush (p : Port) (s : State) (r : Request) : Reply :=
  match r.params with
  | [] =>
    Reply.judge s (s.protectedChecks p)
      (Reply.answer s.flushList .accepted (Operands.carry1 s.list.entries.length))
  | _ => Reply.refuse s .malformed

/-- FLUSH (R56). -/
def execFlush (p : Port) (s : State) : Host.Outcome State Fault Refusal :=
  .next (s.takeRequest p 0x36 (State.judgeFlush p))

/-! ### AXIS PRESET (R11, R12) -/

/-- The axis is set and g is 0; the watchers take the PRESET change: a candidate in flight is discarded, the halt point
is set to the new axis (R12). -/
def State.preset (s : State) (axis : Int) : State :=
  let s := { s with axis := ⟨axis, 0, s.axis.direction⟩ }.dropInFlight
  { s with motion := { s.motion with haltPoint := axis } }

/-- The judgement of AXIS PRESET (R11). -/
def State.judgeAxisPreset (p : Port) (s : State) (r : Request) : Reply :=
  match r.params with
  | [b3, b2, b1, b0] =>
    let axis := Operands.signed4 b3 b2 b1 b0
    Reply.judge s
      ((!AxisUnit.inLimit axis, .malformed) :: (!s.list.entries.isEmpty, .wrongState) :: s.protectedChecks p)
      (Reply.answer (s.preset axis) .accepted
        (Operands.carryAxis axis ++ [0] ++ Operands.carry1 s.axis.direction.code))
  | _ => Reply.refuse s .malformed

/-- A candidate made on the old axis, which waited for an AXIS PRESET that was taken first, is offered with the centre it
was made with (R13). -/
def State.offerMade (s : State) : State :=
  match s.inReset, s.detector.made with
  | true, _ => s
  | false, none => s
  | false, some c => (({ s with detector := { s.detector with made := none } } : State).offer c.centre c.width).settle

/-- AXIS PRESET (R11 to R13). -/
def execAxisPreset (p : Port) (s : State) : Host.Outcome State Fault Refusal :=
  .next (s.takeRequest p 0x37 (State.judgeAxisPreset p)).offerMade

end Sys2Proof.Machine
end

