-- ==== Sys2Proof/Machine/HoldRequests.lean ====
section
/-! DEFINITION. The meanings of the requests on the lift hold: HOLD TAKE, HOLD SET, HOLD DROP, HOLD CLEAR (R96 to
R104). -/

namespace Sys2Proof.Machine

/-! ### HOLD TAKE (R96 to R98) -/

/-- A lane record that still has work: a need above 0 and a status of OPEN or CLAIMED (R96). -/
def LaneRecord.hasWork (r : LaneRecord) : Bool := 0 < r.need && (r.status = .unclaimed || r.status = .claimed)

/-- Some fitted lane has work on the entry (R96). -/
def State.entryHasWork (s : State) (e : Entry) : Bool := Lane.all.any fun x => s.isFitted x && (e.lanes.get x).hasWork

/-- The entry lies within the hold window of the axis (R96). -/
def State.inHoldWindow (s : State) (e : Entry) : Bool := Flags.within e.position s.axis.axis s.live.holdWindow

/-- The deep-lift rule applies to a target; a threshold of 0 switches it off (R98). -/
def State.isDeepLift (s : State) (t : LiftTarget) : Bool :=
  s.live.deepLift ≠ 0 && decide (s.live.deepLift ≤ (max t.left t.right : Nat))

/-- The deep-lift raise changes this lane record (R98). -/
def LaneRecord.isRaised (r : LaneRecord) : Bool := r.need = 1 && (r.status = .unclaimed || r.status = .claimed)

/-- A lane record after the deep-lift raise (R98). -/
def LaneRecord.deepRaised (r : LaneRecord) : LaneRecord := if r.isRaised then { r with need := 2 } else r

/-- An entry after the deep-lift raise, for fitted and unfitted lanes alike (R98). -/
def Entry.deepRaised (e : Entry) : Entry := { e with lanes := e.lanes.map LaneRecord.deepRaised }

/-- The hold is taken on an entry with a lift target (R97). -/
def State.standHold (s : State) (e : Entry) (t : LiftTarget) : State :=
  let s := if s.isDeepLift t then s.updateEntry e.seq Entry.deepRaised else s
  { s with hold := .lifting e.seq t 0 }

/-- The data of an accepted HOLD TAKE (R97): seq, target, deep lift, needs after the raise, raised lanes. -/
def State.holdTakeData (s : State) (e : Entry) (t : LiftTarget) : List Byte :=
  let deep := s.isDeepLift t
  let after := if deep then e.deepRaised else e
  let raised : PerLane Bool := e.lanes.map fun r => deep && r.isRaised
  Operands.carry2 e.seq ++ t.carried ++ Operands.carryBool deep
    ++ (after.lanes.toList.map fun r => BitVec.ofNat 8 r.need) ++ Operands.carry1 (Operands.laneSet raised)

/-- HOLD TAKE on a seq (R96, R97). -/
def State.holdTake (p : Port) (s : State) (q : SeqNo) : Reply :=
  let e? := s.entry? q
  Reply.judge s
    [(s.notGeometry p, .noRight), (s.frozen, .frozen), (e?.isNone, .unknownEntry), (decide (s.hold ≠ .free), .wrongState),
     (e?.any fun e => e.kind = .omitted, .wrongState), (e?.any fun e => !s.entryHasWork e, .wrongState),
     (s.motion.state.isGranted, .moving), (e?.any fun e => !s.inHoldWindow e, .outOfWindow),
     (e?.any fun e => e.target.isNone, .noTarget)]
    (match e? with
     | none => Reply.refuse s .unknownEntry
     | some e =>
       match e.target with
       | none => Reply.refuse s .noTarget
       | some t => Reply.answer (s.standHold e t) .accepted (s.holdTakeData e t))

/-- The judgement of HOLD TAKE (R96). -/
def State.judgeHoldTake (p : Port) (s : State) (r : Request) : Reply :=
  match r.params with
  | [hi, lo] => s.holdTake p (Operands.word hi lo)
  | _ => Reply.refuse s .malformed

/-- HOLD TAKE (R96 to R98). -/
def execHoldTake (p : Port) (s : State) : Host.Outcome State Fault Refusal :=
  .next (s.takeRequest p 0x14 (State.judgeHoldTake p))

/-! ### HOLD SET (R100) -/

def HoldState.isLifting : HoldState → Bool
  | .lifting _ _ _ => true
  | _ => false

/-- The hold is set in LIFTING (R100). -/
def State.acceptHoldSet (s : State) : Reply :=
  match s.hold with
  | .lifting q t _ =>
    Reply.answer ({ s with hold := .held q t (some 0) }.raise .holdHeld) .accepted (Operands.carry2 q ++ t.carried)
  | _ => Reply.refuse s .wrongState

/-- The judgement of HOLD SET (R100). -/
def State.judgeHoldSet (p : Port) (s : State) (r : Request) : Reply :=
  match r.params with
  | [] => Reply.judge s [(s.notGeometry p, .noRight), (!s.hold.isLifting, .wrongState)] s.acceptHoldSet
  | _ => Reply.refuse s .malformed

/-- HOLD SET (R100). -/
def execHoldSet (p : Port) (s : State) : Host.Outcome State Fault Refusal :=
  .next (s.takeRequest p 0x15 (State.judgeHoldSet p))

/-! ### HOLD DROP (R102, R103) -/

/-- The seq and the lift target copy in LIFTING and HELD, the states that HOLD DROP takes (R102). -/
def HoldState.droppable? : HoldState → Option (SeqNo × LiftTarget)
  | .lifting q t _ => some (q, t)
  | .held q t _ => some (q, t)
  | .free => none
  | .opening _ _ => none

/-- Tines of lane x are down where HOLD DROP needs them up (R102). -/
def State.tinesDownOn (s : State) (held : Option SeqNo) (x : Lane) : Bool :=
  match (s.lane x).state with
  | .down q _ => held = some q
  | .orphaned q => held = some q && (s.lane x).tdnActive
  | .fault => s.isFitted x && (s.lane x).tdnActive
  | .off => false
  | .idle => false
  | .claimed _ => false

/-- Lane x is CLAIMED or ORPHANED on the held seq (R102). -/
def State.claimOn (s : State) (held : Option SeqNo) (x : Lane) : Bool :=
  match (s.lane x).state.claimedOrOrphaned? with
  | none => false
  | some q => held = some q

/-- The seq whose claim a forced drop revokes: that of a lane CLAIMED or ORPHANED on the held seq (R103). -/
def State.revokedOn (q : SeqNo) (s : State) (x : Lane) : Option SeqNo := if s.claimOn (some q) x then some q else none

/-- The hold is dropped (R103). -/
def State.dropHold (s : State) (q : SeqNo) (t : LiftTarget) (force : Bool) : State :=
  let s := if force then State.revokeEach (State.revokedOn q) Lane.all s else s
  { s with hold := .opening q t }

/-- An accepted HOLD DROP, with the held seq and the set of lanes it revokes (R103). -/
def State.acceptHoldDrop (s : State) (force : Bool) : Reply :=
  match s.hold.droppable? with
  | none => Reply.refuse s .wrongState
  | some (q, t) =>
    Reply.answer (s.dropHold q t force) .accepted
      (Operands.carry2 q
        ++ Operands.carry1 (Operands.laneSet (.ofFn fun x => force && s.claimOn (some q) x)))

/-- HOLD DROP with the FORCE flag (R102). -/
def State.holdDrop (p : Port) (s : State) (force : Bool) : Reply :=
  let held := s.hold.named?
  Reply.judge s
    [(s.notGeometry p, .noRight), (s.hold.droppable?.isNone, .wrongState),
     (Lane.all.any (s.tinesDownOn held), .lanesDown), (!force && Lane.all.any (s.claimOn held), .claimsOpen)]
    (s.acceptHoldDrop force)

/-- The judgement of HOLD DROP (R102). -/
def State.judgeHoldDrop (p : Port) (s : State) (r : Request) : Reply :=
  match r.params with
  | [force] =>
    if force = 0 then s.holdDrop p false
    else if force = 1 then s.holdDrop p true
    else Reply.refuse s .malformed
  | _ => Reply.refuse s .malformed

/-- HOLD DROP (R102, R103). -/
def execHoldDrop (p : Port) (s : State) : Host.Outcome State Fault Refusal :=
  .next (s.takeRequest p 0x16 (State.judgeHoldDrop p))

/-! ### HOLD CLEAR (R104) -/

/-- The seq that the hold stands on in OPENING. -/
def HoldState.openingSeq? : HoldState → Option SeqNo
  | .opening q _ => some q
  | _ => none

/-- The hold is cleared (R104). -/
def State.clearHold (s : State) : State := ({ s with hold := .free }.raise .holdFree).retire

/-- An accepted HOLD CLEAR (R104). -/
def State.acceptHoldClear (s : State) : Reply :=
  match s.hold.openingSeq? with
  | none => Reply.refuse s .wrongState
  | some q => Reply.answer s.clearHold .accepted (Operands.carry2 q)

/-- The judgement of HOLD CLEAR (R104). -/
def State.judgeHoldClear (p : Port) (s : State) (r : Request) : Reply :=
  match r.params with
  | [] => Reply.judge s [(s.notGeometry p, .noRight), (s.hold.openingSeq?.isNone, .wrongState)] s.acceptHoldClear
  | _ => Reply.refuse s .malformed

/-- HOLD CLEAR (R104). -/
def execHoldClear (p : Port) (s : State) : Host.Outcome State Fault Refusal :=
  .next (s.takeRequest p 0x17 (State.judgeHoldClear p))

end Sys2Proof.Machine
end

