-- ==== Sys2Proof/Machine/LaneRequests.lean ====
section
/-! DEFINITION. The meanings of the requests of the claim protocol: CLAIM, FINISH, WAIVE, ADOPT, CLEAR LANE (R77 to
R82). -/

namespace Sys2Proof.Machine

/-- Judge a request of the claim protocol on the lane of the sender's UNIT role; a sender without one is refused NO_RIGHT
unless a lower check fails, and MALFORMED, the only lower one, has then been found already (R139, R142). -/
def State.judgeOnLane (p : Port) (s : State) (onLane : Lane → Reply) : Reply :=
  match s.laneOf? p with
  | none => Reply.refuse s .noRight
  | some x => onLane x

/-- What the responses to CLAIM and ADOPT carry (R78): seq, need, obstacle mask, squeezes done, kind, hold state and held
seq. -/
def State.claimData (s : State) (x : Lane) (e : Entry) : List Byte :=
  let r := e.lanes.get x
  Operands.carry2 e.seq ++ Operands.carry1 r.need ++ [0#4 ++ r.mask] ++ Operands.carry1 r.squeezes
    ++ Operands.carry1 e.kind.code ++ Operands.carry1 s.hold.code ++ Operands.carrySeq? s.hold.named?

/-! ### CLAIM (R77, R78) -/

/-- The claim is taken: the status on the entry, then the lane state (R78). -/
def State.takeClaim (s : State) (x : Lane) (q : SeqNo) : State := (s.setStatus q x .claimed).setLane x (.claimed q)

/-- The clearance mask covers the entry's obstacle mask for the lane (R77). -/
def LaneRecord.isCovered (r : LaneRecord) (clearance : BitVec 4) : Bool := r.mask &&& ~~~clearance = 0

/-- CLAIM by lane x on a seq (R77, R78). -/
def State.claim (s : State) (q : SeqNo) (clearance : BitVec 4) (x : Lane) : Reply :=
  let e? := s.entry? q
  Reply.judge s
    [(s.frozen, .frozen), (e?.isNone, .unknownEntry), (!(s.lane x).state.isIdle, .wrongState),
     (e?.any fun e => (e.lanes.get x).status ≠ .unclaimed, .wrongState),
     (e?.any fun e => (e.lanes.get x).need = 0, .wrongState), (s.motion.state.isGranted, .moving),
     (e?.any fun e => !s.aligned x e, .outOfWindow), (e?.any fun e => !(e.lanes.get x).isCovered clearance, .obstacle)]
    (match e? with
     | none => Reply.refuse s .unknownEntry
     | some e => Reply.answer (s.takeClaim x q) .accepted (s.claimData x e))

/-- The judgement of CLAIM (R77). -/
def State.judgeClaim (p : Port) (s : State) (r : Request) : Reply :=
  match r.params with
  | [hi, lo, mask] =>
    if mask.toNat < 16 then s.judgeOnLane p (s.claim (Operands.word hi lo) (mask.extractLsb' 0 4))
    else Reply.refuse s .malformed
  | _ => Reply.refuse s .malformed

/-- CLAIM (R77, R78). -/
def execClaim (p : Port) (s : State) : Host.Outcome State Fault Refusal :=
  .next (s.takeRequest p 0x20 (State.judgeClaim p))

/-! ### FINISH (R79) -/

/-- FINISH on an entry that lane x has CLAIMED (R79). -/
def State.finishClaim (s : State) (x : Lane) (q : SeqNo) : Reply :=
  match s.laneRecord? q x with
  | none => Reply.refuse s .wrongState
  | some r =>
    if r.squeezes < r.need then Reply.refuse s .shortWork
    else Reply.answer (s.endClaim x q .worked) .accepted (Operands.carry2 q ++ Operands.carry1 r.squeezes)

/-- FINISH by lane x (R79). A claimed lane names an entry that is held (R69); without one FINISH would be refused
WRONG_STATE (log 23). -/
def State.finish (s : State) (x : Lane) : Reply :=
  match (s.lane x).state with
  | .claimed q => s.finishClaim x q
  | .down _ _ => Reply.refuse s .lanesDown
  | .off => Reply.refuse s .wrongState
  | .idle => Reply.refuse s .wrongState
  | .orphaned _ => Reply.refuse s .wrongState
  | .fault => Reply.refuse s .wrongState

/-- The judgement of FINISH (R79). -/
def State.judgeFinish (p : Port) (s : State) (r : Request) : Reply :=
  match r.params with
  | [] => s.judgeOnLane p s.finish
  | _ => Reply.refuse s .malformed

/-- FINISH (R79). -/
def execFinish (p : Port) (s : State) : Host.Outcome State Fault Refusal :=
  .next (s.takeRequest p 0x21 (State.judgeFinish p))

/-! ### WAIVE (R80) -/

/-- WAIVE by lane x on an entry that the list holds (R80). -/
def State.waiveEntry (s : State) (q : SeqNo) (x : Lane) (e : Entry) : Reply :=
  match (s.lane x).state with
  | .claimed c =>
    if c = q then Reply.answer (s.endClaim x q .waived) .accepted (Operands.carry2 q) else Reply.refuse s .wrongState
  | .idle =>
    if (e.lanes.get x).status = .unclaimed then Reply.answer (s.setStatus q x .waived) .accepted (Operands.carry2 q)
    else Reply.refuse s .wrongState
  | .down _ _ => Reply.refuse s .lanesDown
  | .off => Reply.refuse s .wrongState
  | .orphaned _ => Reply.refuse s .wrongState
  | .fault => Reply.refuse s .wrongState

/-- WAIVE by lane x on a seq (R80); UNKNOWN_ENTRY is the lowest code that can fail here. -/
def State.waive (s : State) (q : SeqNo) (x : Lane) : Reply :=
  match s.entry? q with
  | none => Reply.refuse s .unknownEntry
  | some e => s.waiveEntry q x e

/-- The judgement of WAIVE (R80). -/
def State.judgeWaive (p : Port) (s : State) (r : Request) : Reply :=
  match r.params with
  | [hi, lo] => s.judgeOnLane p (s.waive (Operands.word hi lo))
  | _ => Reply.refuse s .malformed

/-- WAIVE (R80). -/
def execWaive (p : Port) (s : State) : Host.Outcome State Fault Refusal :=
  .next (s.takeRequest p 0x22 (State.judgeWaive p))

/-! ### ADOPT (R81) -/

/-- The data of an accepted ADOPT, those of CLAIM for the named entry (R81); none where no entry has the seq, which R69
rules out (log 23). -/
def State.adoptData (s : State) (x : Lane) (q : SeqNo) : List Byte :=
  match s.entry? q with
  | none => []
  | some e => s.claimData x e

/-- ADOPT by lane x (R81). -/
def State.adopt (s : State) (x : Lane) : Reply :=
  match (s.lane x).state with
  | .orphaned q =>
    if (s.lane x).tdnActive then Reply.refuse s .lanesDown
    else Reply.answer (s.setLane x (.claimed q)) .accepted (s.adoptData x q)
  | .off => Reply.refuse s .wrongState
  | .idle => Reply.refuse s .wrongState
  | .claimed _ => Reply.refuse s .wrongState
  | .down _ _ => Reply.refuse s .wrongState
  | .fault => Reply.refuse s .wrongState

/-- The judgement of ADOPT (R81). -/
def State.judgeAdopt (p : Port) (s : State) (r : Request) : Reply :=
  match r.params with
  | [] => s.judgeOnLane p s.adopt
  | _ => Reply.refuse s .malformed

/-- ADOPT (R81). -/
def execAdopt (p : Port) (s : State) : Host.Outcome State Fault Refusal :=
  .next (s.takeRequest p 0x23 (State.judgeAdopt p))

/-! ### CLEAR LANE (R82) -/

/-- CLEAR LANE may be sent for lane x: by its own port or with the SETUP right (R82, R139). -/
def State.mayClear (s : State) (p : Port) (x : Lane) : Bool := s.roleOf p = .unit x || (s.portRole p).setup

/-- The lane is in FAULT or ORPHANED (R82). -/
def LaneState.isClearable : LaneState → Bool
  | .orphaned _ => true
  | .fault => true
  | _ => false

/-- Lane x returns to IDLE from FAULT, or from ORPHANED by the end of its claim (R82). -/
def State.clearLaneState (s : State) (x : Lane) : State :=
  match (s.lane x).state with
  | .fault => s.setLane x .idle
  | .orphaned q => s.endClaim x q .unclaimed
  | _ => s

/-- CLEAR LANE naming lane x (R82). -/
def State.clearLane (p : Port) (s : State) (x : Lane) : Reply :=
  Reply.judge s
    [(!s.mayClear p x, .noRight), (!(s.lane x).state.isClearable, .wrongState),
     ((s.lane x).state.isClearable && (s.lane x).tdnActive, .lanesDown)]
    (Reply.answer (s.clearLaneState x) .accepted
      (Operands.carry1 (Lane.code x) ++ Operands.carry1 (s.lane x).state.code))

/-- The judgement of CLEAR LANE (R82). -/
def State.judgeClearLane (p : Port) (s : State) (r : Request) : Reply :=
  match r.params with
  | [b] =>
    match Lane.ofCode? b with
    | none => Reply.refuse s .malformed
    | some x => s.clearLane p x
  | _ => Reply.refuse s .malformed

/-- CLEAR LANE (R82). -/
def execClearLane (p : Port) (s : State) : Host.Outcome State Fault Refusal :=
  .next (s.takeRequest p 0x24 (State.judgeClearLane p))

end Sys2Proof.Machine
end

