-- ==== Sys2Proof/Machine/MotionRequests.lean ====
section
/-! DEFINITION. The meanings of the requests on the motion permit: MOVE, STOP (R113 to R115). -/

namespace Sys2Proof.Machine

/-- The port's role is not TRAVEL. -/
def State.notTravel (s : State) (p : Port) : Bool := s.roleOf p ≠ .travel

/-- Some fitted lane has this property. -/
def State.anyFitted (s : State) (f : LaneController → Bool) : Bool := Lane.all.any fun x => s.isFitted x && f (s.lane x)

/-- The grant of an accepted MOVE; the halt point stays as it is (R114). -/
def State.grant (s : State) (distance : Nat) : State :=
  { s with motion := { s.motion with state := .granted s.axis.axis distance } }

/-- MOVE with a distance (R113, R114). -/
def State.move (p : Port) (s : State) (distance : BitVec 16) : Reply :=
  Reply.judge s
    [(decide (distance.toNat < 1 ∨ 20000 < distance.toNat), .malformed), (s.notTravel p, .noRight), (s.frozen, .frozen),
     (decide (s.hold ≠ .free), .wrongState), (s.anyFitted fun l => l.state.isFault, .wrongState),
     (s.anyFitted fun l => l.state.isDown || l.tdnActive, .lanesDown),
     (s.anyFitted fun l => l.state.claimedOrOrphaned?.isSome, .claimsOpen)]
    (Reply.answer (s.grant distance.toNat) .accepted
      (Operands.carryAxis s.axis.axis ++ Operands.carry2 distance ++ Operands.carry1 s.motion.state.code))

/-- The judgement of MOVE (R113). -/
def State.judgeMove (p : Port) (s : State) (r : Request) : Reply :=
  match r.params with
  | [hi, lo] => s.move p (Operands.word hi lo)
  | _ => Reply.refuse s .malformed

/-- MOVE (R113, R114). -/
def execMove (p : Port) (s : State) : Host.Outcome State Fault Refusal :=
  .next (s.takeRequest p 0x28 (State.judgeMove p))

/-- STOP halts a grant, and does nothing in HALT (R115). -/
def State.stop (s : State) : State := if s.motion.state.isGranted then s.haltAtAxis else s

/-- The judgement of STOP (R115). -/
def State.judgeStop (p : Port) (s : State) (r : Request) : Reply :=
  match r.params with
  | [] =>
    Reply.judge s [(s.notTravel p, .noRight)]
      (Reply.answer s.stop .accepted
        (Operands.carry1 s.motion.state.code ++ Operands.carryAxis s.stop.motion.haltPoint))
  | _ => Reply.refuse s .malformed

/-- STOP (R115). -/
def execStop (p : Port) (s : State) : Host.Outcome State Fault Refusal :=
  .next (s.takeRequest p 0x29 (State.judgeStop p))

end Sys2Proof.Machine
end

