-- ==== Sys2Proof/Machine/FreezeRequests.lean ====
section
/-! DEFINITION. The meanings of the requests on the freeze state: FREEZE, THAW (R128 to R130). -/

namespace Sys2Proof.Machine

/-! ### FREEZE (R128) -/

/-- FREEZE with a key byte (R128). -/
def State.requestFreeze (p : Port) (s : State) (key : Byte) : Reply :=
  let t := s.handCause .request (.port p) none
  Reply.judge s [(!(s.portRole p).freeze, .noRight), (decide (key ≠ 0x3C), .badKey)]
    (Reply.answer t .accepted (Operands.carry1 s.freeze.state.code ++ Operands.carry1 t.freeze.cause.code))

/-- The judgement of FREEZE (R128). -/
def State.judgeFreeze (p : Port) (s : State) (r : Request) : Reply :=
  match r.params with
  | [key] => s.requestFreeze p key
  | _ => Reply.refuse s .malformed

/-- FREEZE (R128). -/
def execFreeze (p : Port) (s : State) : Host.Outcome State Fault Refusal :=
  .next (s.takeRequest p 0x0C (State.judgeFreeze p))

/-! ### THAW (R129, R130) -/

/-- A role whose port THAW needs present: GEOMETRY, UNIT-A to UNIT-D or TRAVEL (R129). -/
def Role.neededByThaw : Role → Bool
  | .geometry => true
  | .unit _ => true
  | .travel => true
  | .observer => false
  | .unused => false

/-- A condition of THAW fails (R129). The sending port's presence is tested with the others: where its timer has expired
while KEY and THAW waited behind its own SAVE, the table's row for an ABSENT port and the sentence that the sender always
passes disagree, and the model follows the table (log 28). -/
def State.thawBlocked (s : State) : Bool :=
  s.frzinActive || s.anyFitted (fun l => l.tdnActive) || (Lane.all.any fun x => (s.lane x).state.isDown)
    || Port.all.any fun p => (s.roleOf p).neededByThaw && !s.portPresent p

/-- The seq whose claim THAW revokes: that of a fitted lane CLAIMED or ORPHANED (R130). -/
def State.revokedByThaw (s : State) (x : Lane) : Option SeqNo :=
  if s.isFitted x then (s.lane x).state.claimedOrOrphaned? else none

/-- The part thaws: the revocations while still FROZEN, from lane A to lane D (the model's choice, log 29), then RUN, then
THAWED; the record stays (R130). -/
def State.thaw (s : State) : State :=
  let s := State.revokeEach State.revokedByThaw Lane.all s
  { s with freeze := { s.freeze with state := .run } }.raise .thawed

/-- The judgement of THAW (R129). -/
def State.judgeThaw (p : Port) (s : State) (r : Request) : Reply :=
  match r.params with
  | [] =>
    Reply.judge s
      [(!(s.portRole p).setup, .noRight), (!s.keyOpen p, .protectedRequest), (!s.frozen, .wrongState),
       (s.thawBlocked, .conditions)]
      (Reply.answer s.thaw .accepted
        (Operands.carry1 (Operands.laneSet (.ofFn fun x => (s.revokedByThaw x).isSome))
          ++ Operands.carry1 s.freeze.cause.code ++ Operands.carry1 s.freeze.further))
  | _ => Reply.refuse s .malformed

/-- THAW (R129, R130). -/
def execThaw (p : Port) (s : State) : Host.Outcome State Fault Refusal :=
  .next (s.takeRequest p 0x32 (State.judgeThaw p))

end Sys2Proof.Machine
end

