-- ==== Sys2Proof/Machine/Timers.lean ====
section
/-! DEFINITION. The meanings of the timer expiries and of the ends of the store's write and of a frame being sent. An
expiry command acts once its timer has reached its limit as that stands (log 4), and changes nothing before that or while
RSTN is held (log 2). -/

namespace Sys2Proof.Machine

/-- DOWN_TIMER_EXPIRY (R76). -/
def execDownTimerExpiry (x : Lane) (s : State) : Host.Outcome State Fault Refusal :=
  .next (if !s.inReset && s.reaches (.downTimerExpiry x) then (s.expireDown x).settle else s)

/-- LIFT_TIMER_EXPIRY (R99). -/
def execLiftTimerExpiry (s : State) : Host.Outcome State Fault Refusal :=
  .next (if !s.inReset && s.reaches .liftTimerExpiry then s.expireLift.settle else s)

/-- OVERDUE_TIMER_EXPIRY (R101). -/
def execOverdueTimerExpiry (s : State) : Host.Outcome State Fault Refusal :=
  .next (if !s.inReset && s.reaches .overdueTimerExpiry then s.expireOverdue.settle else s)

/-- PRESENCE_TIMER_EXPIRY (R137). -/
def execPresenceTimerExpiry (p : Port) (s : State) : Host.Outcome State Fault Refusal :=
  .next (if !s.inReset && s.reaches (.presenceTimerExpiry p) then (s.expirePresence p).settle else s)

/-- The body of a port's status frame (R144, R150): the state block and a delivery. -/
def State.statusBody (s : State) (p : Port) : List Byte :=
  [0x00, 0x40] ++ s.stateBlock ++ (s.events.get p).deliveryData

/-- Change one port's items of the Event Unit. -/
def State.updateEvents (s : State) (p : Port) (f : EventPort → EventPort) : State :=
  { s with events := s.events.modify p f }

/-- The status timer of port p expires (R150). -/
def State.expireStatus (s : State) (p : Port) : State :=
  if (s.ports.get p).status.isSome then s.updateEvents p fun v => { v with timer := some 0 }
  else
    (s.updateEvents p fun v => { v.delivered with timer := some 0 }).sendStatus p ⟨.statusFrame, s.statusBody p⟩

/-- STATUS_TIMER_EXPIRY (R150). -/
def execStatusTimerExpiry (p : Port) (s : State) : Host.Outcome State Fault Refusal :=
  .next (if !s.inReset && s.reaches (.statusTimerExpiry p) then s.expireStatus p else s)

/-- The write of the image completes: the save in flight ends, and the SAVE response is formed and sent (R157). -/
def State.completeSave (s : State) : State :=
  match s.store.save with
  | none => s
  | some v =>
    { s with store := { s.store with image := .ofSettings v.snapshot, save := none } }.sendResponse v.port
      ⟨.response, Operands.responseBody ⟨v.tag, 0x33, []⟩ .accepted []⟩

/-- SAVE_WRITE_COMPLETE (R157). -/
def execSaveWriteComplete (s : State) : Host.Outcome State Fault Refusal :=
  .next (if !s.inReset then s.completeSave else s)

/-- The end of the RESTART response on port p lets the restart take effect (R160). -/
def State.noteRestartSent (s : State) (f : TxFrame) : State :=
  match f.kind, s.restart with
  | .restartResponse, some v => { s with restart := some { v with responseSent := true } }
  | _, _ => s

/-- The line of port p becomes free and a waiting frame begins to be sent (R136). The free value decides only between
a response and a status frame that both wait, and is then used up (log 6). -/
def State.nextFrame (s : State) (p : Port) : State :=
  let both := (s.ports.get p).response.isSome && (s.ports.get p).status.isSome
  let first := if both then Config.statusFirst s.freeCount else false
  { s.updatePort p (fun v => v.sendNext first) with freeCount := if both then s.freeCount + 1 else s.freeCount }

/-- FRAME_SENT (R136). -/
def execFrameSent (p : Port) (s : State) : Host.Outcome State Fault Refusal :=
  .next (match s.inReset, (s.ports.get p).sending with
    | false, some f => (s.noteRestartSent f).nextFrame p
    | _, _ => s)

end Sys2Proof.Machine
end

