-- ==== Sys2Proof/Machine/PortRequests.lean ====
section
/-! DEFINITION. The meanings of frames arriving and of the requests that the Port Interface and the Event Unit answer:
VALID_FRAME, DISCARDED_FRAME, UNKNOWN_CODE, PRESENT, KEY, READ EVENTS, EVENT MASK, STATUS INTERVAL (R133 to R150). -/

namespace Sys2Proof.Machine

/-- VALID_FRAME (R133, R135): the bytes of a frame with this body reach the port's receiver with no gap. -/
def execValidFrame (p : Port) (body : List Byte) (s : State) : Host.Outcome State Fault Refusal :=
  .next (if s.inReset then s else (s.receiveBytes p (Frames.onTime (Frames.wire body))).settle)

/-- DISCARDED_FRAME (R133): bytes that make no valid frame reach the port's receiver. -/
def execDiscardedFrame (p : Port) (bytes : List RxByte) (s : State) : Host.Outcome State Fault Refusal :=
  .next (if s.inReset then s else (s.receiveBytes p bytes).settle)

/-- The code names no request (R139, R144). -/
def Request.isUnknown (code : Byte) : Bool := (Request.command? .p0 code).isNone

/-- UNKNOWN_CODE (R139): refused MALFORMED, and one count of the key window is used. -/
def execUnknownCode (p : Port) (s : State) : Host.Outcome State Fault Refusal :=
  .next (match s.front? p Request.isUnknown with
    | none => s
    | some r => (State.respond p r (Reply.refuse (s.popQueue p) .malformed)).settle)

/-- The judgement of PRESENT (R137). The count carried is the one left after PRESENT's own count has been used. -/
def State.judgePresent (p : Port) (s : State) (r : Request) : Reply :=
  match r.params with
  | [] =>
    let role := s.portRole p
    Reply.answer s .accepted
      [BitVec.ofNat 8 (Port.number p), BitVec.ofNat 8 role.role.code, BitVec.ofNat 8 role.rightsCode,
       BitVec.ofNat 8 (KeyUse.useCount.apply (s.ports.get p).keyCount),
       BitVec.ofInt 8 (s.live.presenceInterval / 10)]
  | _ => Reply.refuse s .malformed

/-- PRESENT (R137). -/
def execPresent (p : Port) (s : State) : Host.Outcome State Fault Refusal :=
  .next (s.takeRequest p 0x01 (State.judgePresent p))

/-- The judgement of KEY (R141): a key byte other than 0x6B closes the window; a KEY refused otherwise uses a count. -/
def State.judgeKey (p : Port) (s : State) (r : Request) : Reply :=
  match r.params with
  | [key] =>
    Reply.judge s [(!(s.portRole p).setup, .noRight)]
      (if key = 0x6B then { Reply.answer s .accepted [] with key := .openWindow }
       else { Reply.refuse s .badKey with key := .closeWindow })
  | _ => Reply.refuse s .malformed

/-- KEY (R141). -/
def execKey (p : Port) (s : State) : Host.Outcome State Fault Refusal :=
  .next (s.takeRequest p 0x0D (State.judgeKey p))

/-- The judgement of READ EVENTS: a delivery (R149). -/
def State.judgeReadEvents (p : Port) (s : State) (r : Request) : Reply :=
  match r.params with
  | [] => Reply.answer (s.updateEvents p EventPort.delivered) .accepted (s.events.get p).deliveryData
  | _ => Reply.refuse s .malformed

/-- READ EVENTS (R149). -/
def execReadEvents (p : Port) (s : State) : Host.Outcome State Fault Refusal :=
  .next (s.takeRequest p 0x03 (State.judgeReadEvents p))

/-- The mask after EVENT MASK: the selected events enter it or leave it by the value set (R148). -/
def EventPort.masked (v : EventPort) (select value : BitVec 24) : EventPort :=
  { v with mask := (v.mask &&& ~~~select) ||| (select &&& value) }

/-- The judgement of EVENT MASK (R148). -/
def State.judgeEventMask (p : Port) (s : State) (r : Request) : Reply :=
  match r.params with
  | [s2, s1, s0, v2, v1, v0] =>
    let v := (s.events.get p).masked (Operands.eventSet s2 s1 s0) (Operands.eventSet v2 v1 v0)
    Reply.answer (s.updateEvents p fun _ => v) .accepted
      (Operands.carryEvents v.mask ++ Operands.carry1 (Operands.eventNumbers v.deliverable).length)
  | _ => Reply.refuse s .malformed

/-- EVENT MASK (R148). -/
def execEventMask (p : Port) (s : State) : Host.Outcome State Fault Refusal :=
  .next (s.takeRequest p 0x04 (State.judgeEventMask p))

/-- The status interval taken for a written byte, in units of 10 ms: 1 is taken as 2 (R150). -/
def EventPort.intervalTaken (b : Byte) : Byte := if b = 1 then 2 else b

/-- A port's items with a new status interval; its timer restarts from 0, or stops when the interval is off (R150). -/
def EventPort.withInterval (v : EventPort) (units : Byte) : EventPort :=
  { v with interval := (units.toNat : Int) * 10, timer := if units = 0 then none else some 0 }

/-- The judgement of STATUS INTERVAL (R150). -/
def State.judgeStatusInterval (p : Port) (s : State) (r : Request) : Reply :=
  match r.params with
  | [b] =>
    let units := EventPort.intervalTaken b
    Reply.answer (s.updateEvents p fun v => v.withInterval units) (Operands.taken (units ≠ b)) [units]
  | _ => Reply.refuse s .malformed

/-- STATUS INTERVAL (R150). -/
def execStatusInterval (p : Port) (s : State) : Host.Outcome State Fault Refusal :=
  .next (s.takeRequest p 0x05 (State.judgeStatusInterval p))

end Sys2Proof.Machine
end

