-- ==== Sys2Proof/Machine/SettingsRequests.lean ====
section
/-! DEFINITION. The meanings of the requests on the settings: SET, SET ROLES, SAVE, RELOAD, RESTART (R140, R155 to
R160). -/

namespace Sys2Proof.Machine

/-! ### SET (R155) -/

/-- The checks of SET on a setting: for a protected one also the key window and quiescence (R155). -/
def State.setChecks (s : State) (p : Port) (k : Setting) : List (Bool × Result) :=
  [(!(s.portRole p).setup, .noRight), (k.isProtected && !s.keyOpen p, .protectedRequest),
   (k.isProtected && !s.quiescent, .notQuiescent)]

/-- SET writes setting k with a value (R155). -/
def State.setSetting (p : Port) (s : State) (n : Byte) (k : Setting) (v : Int) : Reply :=
  Reply.judge s (s.setChecks p k)
    (Reply.answer (s.writeSettings (s.live.write k v)) (Operands.taken (s.live.writeAdjusts k v))
      (n :: Operands.carryAxis ((s.live.write k v).get k)))

/-- The judgement of SET (R155). -/
def State.judgeSet (p : Port) (s : State) (r : Request) : Reply :=
  match r.params with
  | [n, b3, b2, b1, b0] =>
    match Setting.ofNumber? n.toNat with
    | none => Reply.refuse s .malformed
    | some k => s.setSetting p n k (Operands.signed4 b3 b2 b1 b0)
  | _ => Reply.refuse s .malformed

/-- SET (R155). -/
def execSet (p : Port) (s : State) : Host.Outcome State Fault Refusal :=
  .next (s.takeRequest p 0x30 (State.judgeSet p))

/-! ### SET ROLES (R140) -/

/-- The twelve bytes of SET ROLES; none when a role or a rights value lies outside its set (R140). -/
def Operands.rolesOf? (ps : List Byte) : Option (PerPort PortRole) :=
  match ps with
  | [a0, a1, b0, b1, c0, c1, d0, d1, e0, e1, f0, f1] =>
    match PortRole.ofCodes? a0.toNat a1.toNat, PortRole.ofCodes? b0.toNat b1.toNat, PortRole.ofCodes? c0.toNat c1.toNat,
        PortRole.ofCodes? d0.toNat d1.toNat, PortRole.ofCodes? e0.toNat e1.toNat, PortRole.ofCodes? f0.toNat f1.toNat with
    | some a, some b, some c, some d, some e, some f => some ⟨a, b, c, d, e, f⟩
    | _, _, _, _, _, _ => none
  | _ => none

/-- The roles break the constraints that SET ROLES keeps: one port of each role at most, and a port with SETUP (R140). -/
def Settings.rolesConflict (roles : PerPort PortRole) : Bool :=
  !Settings.rolesDistinct roles || !roles.toList.any fun r => r.setup

/-- SET ROLES writes the roles and rights (R140). -/
def State.writeRoles (s : State) (roles : PerPort PortRole) : State :=
  { s with store := { s.store with live := { s.live with roles := roles } } }

/-- The judgement of SET ROLES (R140). -/
def State.judgeSetRoles (p : Port) (s : State) (r : Request) : Reply :=
  match Operands.rolesOf? r.params with
  | none => Reply.refuse s .malformed
  | some roles =>
    Reply.judge s (s.protectedChecks p ++ [(Settings.rolesConflict roles, .roleConflict)])
      (Reply.answer (s.writeRoles roles) .accepted [])

/-- SET ROLES (R140). -/
def execSetRoles (p : Port) (s : State) : Host.Outcome State Fault Refusal :=
  .next (s.takeRequest p 0x31 (State.judgeSetRoles p))

/-! ### SAVE, RELOAD, RESTART (R157, R158, R160) -/

/-- The store is busy: a save is in flight, or an accepted RESTART has not yet taken effect (R157, R158, R160). -/
def State.storeBusy (s : State) : Bool := s.store.save.isSome || s.restart.isSome

/-- A save begins with a snapshot of every live setting (R157). -/
def State.beginSave (p : Port) (tag : Byte) (s : State) : State :=
  { s with store := { s.store with save := some ⟨p, tag, s.live, 0⟩ } }

/-- The judgement of SAVE: an accepted SAVE is answered when its write completes (R157). -/
def State.judgeSave (p : Port) (s : State) (r : Request) : Reply :=
  match r.params with
  | [] =>
    Reply.judge s
      [(!(s.portRole p).setup, .noRight), (!s.keyOpen p, .protectedRequest), (s.storeBusy, .storeBusy)]
      { Reply.answer (State.beginSave p r.tag s) .accepted [] with frame := none }
  | _ => Reply.refuse s .malformed

/-- SAVE (R157). -/
def execSave (p : Port) (s : State) : Host.Outcome State Fault Refusal :=
  .next (s.takeRequest p 0x33 (State.judgeSave p))

/-- RELOAD reads and judges the image, writes its settings, and raises its event under the roles just loaded (R158). -/
def State.reload (s : State) : State :=
  (s.writeSettings s.store.image.settings).raise? s.store.image.judge.event?

/-- The judgement of RELOAD (R158). -/
def State.judgeReload (p : Port) (s : State) (r : Request) : Reply :=
  match r.params with
  | [] =>
    Reply.judge s (s.protectedChecks p ++ [(s.storeBusy, .storeBusy)])
      (Reply.answer s.reload .accepted (Operands.carry1 s.store.image.judge.code))
  | _ => Reply.refuse s .malformed

/-- RELOAD (R158). -/
def execReload (p : Port) (s : State) : Host.Outcome State Fault Refusal :=
  .next (s.takeRequest p 0x34 (State.judgeReload p))

/-- The judgement of RESTART: its response is sent in full before it takes effect (R160). -/
def State.judgeRestart (p : Port) (s : State) (r : Request) : Reply :=
  match r.params with
  | [] =>
    Reply.judge s (s.protectedChecks p ++ [(s.storeBusy, .storeBusy)])
      { Reply.answer { s with restart := some ⟨p, false⟩ } .accepted [] with frame := some .restartResponse }
  | _ => Reply.refuse s .malformed

/-- RESTART (R160). -/
def execRestart (p : Port) (s : State) : Host.Outcome State Fault Refusal :=
  .next (s.takeRequest p 0x35 (State.judgeRestart p))

end Sys2Proof.Machine
end

