-- ==== Sys2Proof/Machine/Resets.lean ====
section
/-! DEFINITION. The meanings of the two resets: RESTART_TAKES_EFFECT, RSTN_ASSERTION, FULL_RESET (R143, R159, R160). -/

namespace Sys2Proof.Machine

/-- STARTED is latched for every port, and then the lines are sampled (R159 step 5 and what follows it). -/
def State.started (s : State) : State := (s.raise .started).sampleLines

/-- An accepted RESTART whose response has been sent in full; the part is not in a full reset (R160). -/
def State.restartReady? (s : State) : Option RestartPending :=
  if s.inReset then none
  else
    match s.restart with
    | none => none
    | some v => if v.responseSent then some v else none

/-- The restart takes effect: steps 3 to 5 of R159 with the differences of R160. -/
def State.takeRestart (s : State) (p : Port) : State :=
  (s.resetBlocks (s.ports.map PortState.restarted) .restart (.port p)).started

/-- RESTART_TAKES_EFFECT (R160). -/
def execRestartTakesEffect (s : State) : Host.Outcome State Fault Refusal :=
  .next (match s.restartReady? with
    | none => s
    | some v => (s.takeRestart v.port).settle)

/-- A port that stops sending (R143). -/
def PortState.cutOff (v : PortState) : PortState := { v with sending := none }

/-- RSTN goes active: sending stops and a frame being sent is cut off (R143), a save in flight is stopped and leaves the
image invalid (R157). -/
def State.holdReset (s : State) : State :=
  { s with pins := { s.pins with rstn := .low }, ports := s.ports.map PortState.cutOff }.stopWrite

/-- RSTN_ASSERTION (R159): the outputs take their levels of a held reset. -/
def execRstnAssertion (s : State) : Host.Outcome State Fault Refusal :=
  .next (if s.inReset then s else s.holdReset.settle)

/-- Steps 1 and 2 of R159: the image becomes the live settings, no save is in flight, and the live link rate is applied
to the ports. -/
def State.loadImage (s : State) : State :=
  { s with store := { s.store with live := s.store.image.settings, save := none,
                                   linkRateInUse := s.store.image.settings.linkRate } }

/-- The full reset runs (R159): steps 1 and 2, then every block and the freeze record, the STORE event, STARTED, and the
samples. -/
def State.fullReset (s : State) : State :=
  let s := { s with pins := { s.pins with rstn := .high } }.stopWrite
  let event := s.store.image.judge.event?
  let s := s.loadImage
  ((s.resetBlocks (.replicate PortState.reset) .start .nowhere).raise? event).started

/-- FULL_RESET (R159): RSTN is released, or power is established. -/
def execFullReset (s : State) : Host.Outcome State Fault Refusal := .next s.fullReset.settle

end Sys2Proof.Machine
end

