-- ==== Sys2Proof/Machine/Dispatch.lean ====
section
/-! DEFINITION. One arm for each row of spec/opcode_table.json: the meaning of its command. -/

namespace Sys2Proof.Machine

def exec (i : Instr) (s : State) : Host.Outcome State Fault Refusal :=
  match i with
  | .pulse odb => Sys2Proof.Machine.execPulse odb s
  | .activeEdge => Sys2Proof.Machine.execActiveEdge s
  | .inactiveEdge => Sys2Proof.Machine.execInactiveEdge s
  | .tdnLineChange x level => Sys2Proof.Machine.execTdnLineChange x level s
  | .assertion x => Sys2Proof.Machine.execAssertion x s
  | .release x => Sys2Proof.Machine.execRelease x s
  | .downTimerExpiry x => Sys2Proof.Machine.execDownTimerExpiry x s
  | .liftTimerExpiry => Sys2Proof.Machine.execLiftTimerExpiry s
  | .overdueTimerExpiry => Sys2Proof.Machine.execOverdueTimerExpiry s
  | .presenceTimerExpiry p => Sys2Proof.Machine.execPresenceTimerExpiry p s
  | .validFrame p body => Sys2Proof.Machine.execValidFrame p body s
  | .discardedFrame p bytes => Sys2Proof.Machine.execDiscardedFrame p bytes s
  | .unknownCode p => Sys2Proof.Machine.execUnknownCode p s
  | .present p => Sys2Proof.Machine.execPresent p s
  | .readState p => Sys2Proof.Machine.execReadState p s
  | .readEvents p => Sys2Proof.Machine.execReadEvents p s
  | .eventMask p => Sys2Proof.Machine.execEventMask p s
  | .statusInterval p => Sys2Proof.Machine.execStatusInterval p s
  | .statusTimerExpiry p => Sys2Proof.Machine.execStatusTimerExpiry p s
  | .readEntry p => Sys2Proof.Machine.execReadEntry p s
  | .readRegister p => Sys2Proof.Machine.execReadRegister p s
  | .readPassages p => Sys2Proof.Machine.execReadPassages p s
  | .readCounters p => Sys2Proof.Machine.execReadCounters p s
  | .readSetting p => Sys2Proof.Machine.execReadSetting p s
  | .readFault p => Sys2Proof.Machine.execReadFault p s
  | .freeze p => Sys2Proof.Machine.execFreeze p s
  | .key p => Sys2Proof.Machine.execKey p s
  | .annotate p => Sys2Proof.Machine.execAnnotate p s
  | .place p => Sys2Proof.Machine.execPlace p s
  | .strike p => Sys2Proof.Machine.execStrike p s
  | .takePassages p => Sys2Proof.Machine.execTakePassages p s
  | .holdTake p => Sys2Proof.Machine.execHoldTake p s
  | .holdSet p => Sys2Proof.Machine.execHoldSet p s
  | .holdDrop p => Sys2Proof.Machine.execHoldDrop p s
  | .holdClear p => Sys2Proof.Machine.execHoldClear p s
  | .claim p => Sys2Proof.Machine.execClaim p s
  | .finish p => Sys2Proof.Machine.execFinish p s
  | .waive p => Sys2Proof.Machine.execWaive p s
  | .adopt p => Sys2Proof.Machine.execAdopt p s
  | .clearLane p => Sys2Proof.Machine.execClearLane p s
  | .move p => Sys2Proof.Machine.execMove p s
  | .stop p => Sys2Proof.Machine.execStop p s
  | .set p => Sys2Proof.Machine.execSet p s
  | .setRoles p => Sys2Proof.Machine.execSetRoles p s
  | .thaw p => Sys2Proof.Machine.execThaw p s
  | .save p => Sys2Proof.Machine.execSave p s
  | .saveWriteComplete => Sys2Proof.Machine.execSaveWriteComplete s
  | .reload p => Sys2Proof.Machine.execReload p s
  | .restart p => Sys2Proof.Machine.execRestart p s
  | .restartTakesEffect => Sys2Proof.Machine.execRestartTakesEffect s
  | .flush p => Sys2Proof.Machine.execFlush p s
  | .axisPreset p => Sys2Proof.Machine.execAxisPreset p s
  | .frzinAssertion => Sys2Proof.Machine.execFrzinAssertion s
  | .frzinRelease => Sys2Proof.Machine.execFrzinRelease s
  | .rstnAssertion => Sys2Proof.Machine.execRstnAssertion s
  | .fullReset => Sys2Proof.Machine.execFullReset s
  | .frameSent p => Sys2Proof.Machine.execFrameSent p s

end Sys2Proof.Machine
end

