-- ==== Sys2Proof/Machine/Idle.lean ====
section
/-! DEFINITION. What a step does on an empty queue: one millisecond passes, every running timer advances, and the commands
that have become due enter the queue (log 3). -/

namespace Sys2Proof.Machine

/-! ### One millisecond -/

/-- A running time advances by one millisecond; a stopped one stays stopped. -/
def Flags.advance (ms : Option Nat) : Option Nat := ms.map (· + 1)

/-- A lane state's down timer runs on (R76). -/
def LaneState.advance : LaneState → LaneState
  | .down q ms => .down q (ms + 1)
  | .off => .off
  | .idle => .idle
  | .claimed q => .claimed q
  | .orphaned q => .orphaned q
  | .fault => .fault

/-- A lane's down timer and debounce measure run on (R74, R76). -/
def LaneController.advance (l : LaneController) : LaneController :=
  { l with state := l.state.advance, debounce := Flags.advance l.debounce }

/-- The lift timer or the overdue timer runs on (R99, R101). -/
def HoldState.advance : HoldState → HoldState
  | .lifting q t ms => .lifting q t (ms + 1)
  | .held q t ms => .held q t (Flags.advance ms)
  | .free => .free
  | .opening q t => .opening q t

/-- A presence timer runs on (R137). -/
def Presence.advance : Presence → Presence
  | .present ms => .present (ms + 1)
  | .absent => .absent

/-- The time since the last byte of a frame being received runs on (R133). -/
def RxState.advance : RxState → RxState
  | .inFrame taken ms => .inFrame taken (ms + 1)
  | .hunting => .hunting

/-- A port's presence timer and its receiver run on (R133, R137). -/
def PortState.advance (v : PortState) : PortState := { v with presence := v.presence.advance, rx := v.rx.advance }

/-- A port's status timer runs on (R150). -/
def EventPort.advance (v : EventPort) : EventPort := { v with timer := Flags.advance v.timer }

/-- The write of a save in flight goes on (R157). -/
def SaveInFlight.advance (v : SaveInFlight) : SaveInFlight := { v with ms := v.ms + 1 }

/-- One millisecond passes for every timer of the part. -/
def State.advance (s : State) : State :=
  { s with
    lanes := s.lanes.map LaneController.advance
    hold := s.hold.advance
    ports := s.ports.map PortState.advance
    events := s.events.map EventPort.advance
    store := { s.store with save := s.store.save.map SaveInFlight.advance } }

/-! ### What has become due -/

/-- The timers that have reached their limits (R74, R76, R99, R101, R137, R150). -/
def State.dueTimers (s : State) : List Instr :=
  (Flags.debounceEnds ++ Flags.downEnds ++ [Instr.liftTimerExpiry, .overdueTimerExpiry] ++ Flags.presenceEnds
    ++ Port.all.map Instr.statusTimerExpiry).filter s.reaches

/-- A write that has taken 120 ms, the longest it may take, completes (R157; log 17). -/
def State.dueSave (s : State) : List Instr :=
  if Flags.reached (s.store.save.map SaveInFlight.ms) 120 then [.saveWriteComplete] else []

/-- A restart whose response has been sent in full takes effect (R160). -/
def State.dueRestart (s : State) : List Instr := if s.restartReady?.isSome then [.restartTakesEffect] else []

/-- The requests that ports may now take from the front of their queues (R136). -/
def State.dueRequests (s : State) : List Instr := Port.all.filterMap fun p =>
  if s.mayTake p then (s.ports.get p).queue.head?.map (Request.command p) else none

/-- Every command that is due. -/
def State.due (s : State) : List Instr := s.dueTimers ++ s.dueSave ++ s.dueRestart ++ s.dueRequests

/-- The commands that are due enter the queue, in an order that no rule gives (R92, R109, R121, R131; log 5). -/
def State.queueDue (s : State) : State :=
  { s with pending := s.freeOrder s.due, freeCount := s.countAfter s.due }

/-- A step on an empty queue: nothing while RSTN is held (R159), and otherwise one millisecond (log 3). -/
def State.idle (s : State) : State := if s.inReset then s else s.advance.queueDue

end Sys2Proof.Machine
end

