-- ==== Sys2Proof/Safety.lean ====
section
/-! DEFINITION. The words the statements use: when a port hands a request on, what an answer does to its port, and the
invariants of the machine. -/

namespace Sys2Proof.Machine

/-! ### Requests and answers -/

/-- Port p may take its next request, and that request is r, of this code (R136). -/
def State.hands (s : State) (p : Port) (r : Request) (code : Byte) : Prop :=
  s.mayTake p = true ∧ (s.ports.get p).queue.head? = some r ∧ r.code = code

/-- Port p's response to r is formed: it is sent at once on a free line and waits otherwise (R136, R144). -/
def State.sends (s : State) (p : Port) (r : Request) (kind : TxKind) (result : Result) (data : List Byte) : State :=
  let f : TxFrame := ⟨kind, r.tag :: (r.code + 0x80) :: BitVec.ofNat 8 result.code :: data⟩
  { s with ports := s.ports.modify p fun v =>
      { v with sending := some (v.sending.getD f), response := if v.sending.isSome then some f else v.response } }

/-- Port p uses one count of its key window (R141). -/
def State.countsKey (s : State) (p : Port) : State :=
  { s with ports := s.ports.modify p fun v => { v with keyCount := v.keyCount - 1 } }

/-- The frame at the front of port p's queue leaves it (R135). -/
def State.unqueues (s : State) (p : Port) : State :=
  { s with ports := s.ports.modify p fun v => { v with queue := v.queue.tail } }

/-- The request r of port p is answered: one count of the key window, and the response. -/
def State.answers (s : State) (p : Port) (r : Request) (result : Result) (data : List Byte) : State :=
  (s.countsKey p).sends p r .response result data

/-- The request r of port p is refused: nothing but its queue, its key window and its response (R142). -/
def State.refuses (s : State) (p : Port) (r : Request) (result : Result) : State :=
  (s.unqueues p).answers p r result []

/-- The state after a request of port p: the lowest-numbered refusal among the checks that fail, or `accepted` (R142).
The output lines then follow their conditions. -/
def State.afterJudging (s : State) (p : Port) (r : Request) (checks : List (Bool × Result)) (accepted : State) : State :=
  match Operands.lowestRefusal checks with
  | some c => (s.refuses p r c).settle
  | none => accepted.settle

/-- How many parameter bytes a request has, by its code (R144); none for an unknown code. -/
def Request.length? (code : Byte) : Option Nat :=
  match code.toNat with
  | 0x01 | 0x02 | 0x03 => some 0
  | 0x04 => some 6
  | 0x05 => some 1
  | 0x06 | 0x07 => some 2
  | 0x08 => some 1
  | 0x09 => some 0
  | 0x0A | 0x0B | 0x0C | 0x0D => some 1
  | 0x10 => some 16
  | 0x11 => some 6
  | 0x12 => some 2
  | 0x13 => some 1
  | 0x14 => some 2
  | 0x15 => some 0
  | 0x16 => some 1
  | 0x17 => some 0
  | 0x20 => some 3
  | 0x21 => some 0
  | 0x22 => some 2
  | 0x23 => some 0
  | 0x24 => some 1
  | 0x28 => some 2
  | 0x29 => some 0
  | 0x30 => some 5
  | 0x31 => some 12
  | 0x32 | 0x33 | 0x34 | 0x35 | 0x36 => some 0
  | 0x37 => some 4
  | _ => none

/-- Event e is latched in port p's set (R146). -/
def State.hasLatched (s : State) (p : Port) (e : Event) : Prop :=
  (s.events.get p).latched.getLsbD (e.number - 1) = true

/-- From s to t the events are only raised: each port keeps its mask, its interval, its timer and what it has latched, and
what is newly latched is among these events (R146). -/
def State.raisesOnly (s t : State) (es : List Event) : Prop :=
  ∀ p,
    (t.events.get p).mask = (s.events.get p).mask ∧ (t.events.get p).interval = (s.events.get p).interval
      ∧ (t.events.get p).timer = (s.events.get p).timer
      ∧ ∀ i : Fin 24,
          ((s.events.get p).latched.getLsbD i = true → (t.events.get p).latched.getLsbD i = true)
            ∧ ((t.events.get p).latched.getLsbD i = true →
                (s.events.get p).latched.getLsbD i = true ∨ i.val + 1 ∈ es.map Event.number)

/-! ### Timers (R74, R76, R99, R101, R137, R150) -/

/-- The command is the end of a timer. -/
def Flags.isTimerEnd : Instr → Bool
  | .assertion _ => true
  | .release _ => true
  | .downTimerExpiry _ => true
  | .liftTimerExpiry => true
  | .overdueTimerExpiry => true
  | .presenceTimerExpiry _ => true
  | .statusTimerExpiry _ => true
  | _ => false

/-- The timer whose end this command is runs, and has reached its limit as that stands. -/
def State.timerDue (s : State) (c : Instr) : Prop :=
  match c with
  | .assertion x =>
    ∃ ms : Nat, (s.lane x).debounce = some ms ∧ s.live.tdnDebounce ≤ ms ∧ s.tdnLineActive x = true
      ∧ (s.lane x).tdnActive = false
  | .release x =>
    ∃ ms : Nat, (s.lane x).debounce = some ms ∧ s.live.tdnDebounce ≤ ms ∧ s.tdnLineActive x = false
      ∧ (s.lane x).tdnActive = true
  | .downTimerExpiry x => ∃ (q : SeqNo) (ms : Nat), (s.lane x).state = .down q ms ∧ s.live.downLimit ≤ ms
  | .liftTimerExpiry => ∃ (q : SeqNo) (t : LiftTarget) (ms : Nat), s.hold = .lifting q t ms ∧ s.live.liftTimeout ≤ ms
  | .overdueTimerExpiry =>
    ∃ (q : SeqNo) (t : LiftTarget) (ms : Nat), s.hold = .held q t (some ms) ∧ s.live.holdOverdue ≤ ms
  | .presenceTimerExpiry p =>
    ∃ ms : Nat, (s.ports.get p).presence = .present ms ∧ s.live.presenceInterval ≤ ms
  | .statusTimerExpiry p => ∃ ms : Nat, (s.events.get p).timer = some ms ∧ (s.events.get p).interval ≤ ms
  | _ => False

/-! ### The output lines (R72, R112, R124, R159) -/

/-- Every condition of lane x's descend permit holds, and RSTN is released (R72, R159). -/
def State.permitDue (s : State) (x : Lane) : Prop :=
  s.pins.rstn = .high ∧ s.freeze.state = .run
    ∧ (∃ q e, (s.lane x).state.permitSeq? = some q ∧ s.hold.heldOn q = true ∧ s.entry? q = some e
        ∧ e.position - (s.axis.axis + s.live.laneOffset.get x) ≤ s.live.claimWindow
        ∧ s.axis.axis + s.live.laneOffset.get x - e.position ≤ s.live.claimWindow)
    ∧ (∃ p, s.roleOf p = .unit x ∧ s.portPresent p = true)
    ∧ (∃ p, s.roleOf p = .geometry ∧ s.portPresent p = true)

/-- The output lines stand as their rules say (R72, R112, R124, R159). -/
def State.linesFollow (s : State) : Prop :=
  (∀ x, s.pins.dpm.get x = true ↔ s.permitDue x)
    ∧ (s.pins.movok = true ↔ s.pins.rstn = .high ∧ s.freeze.state = .run ∧ s.motion.state.isGranted = true)
    ∧ (s.pins.frzout = true ↔ s.pins.rstn = .low ∨ s.freeze.state = .frozen)

/-! ### The list, the claims and the hold (R33, R55, R68 to R70, R94, R95, R112) -/

/-- At most 48 entries, pairwise distinct seqs, positions strictly rising from head to tail (R33). -/
def State.listOrdered (s : State) : Prop :=
  s.list.entries.length ≤ 48 ∧ (s.list.entries.map Entry.seq).Nodup
    ∧ s.list.entries.Pairwise fun e f => e.position < f.position

/-- A lane is OFF exactly when it is not fitted (R68, R70). -/
def State.offUnfitted (s : State) : Prop := ∀ x, (s.lane x).state = .off ↔ s.isFitted x = false

/-- A lane names an entry of the list exactly where that entry's status for the lane is CLAIMED (R69). -/
def State.claimsMatch (s : State) : Prop :=
  (∀ x q, (s.lane x).state.named? = some q →
      ∃ e ∈ s.list.entries, e.seq = q ∧ (e.lanes.get x).status = .claimed)
    ∧ ∀ x, ∀ e ∈ s.list.entries, (e.lanes.get x).status = .claimed → (s.lane x).state.named? = some e.seq

/-- The invariant of R69, with what it rests on: distinct seqs and OFF lanes. -/
def State.claimsHold (s : State) : Prop :=
  s.list.entries.length ≤ 48 ∧ (s.list.entries.map Entry.seq).Nodup ∧ s.offUnfitted ∧ s.claimsMatch

/-- The hold names an entry of the list (R55, R94), and a lane in DOWN has the hold HELD on its seq (R95). -/
def State.holdStands (s : State) : Prop :=
  (∀ q, s.hold.named? = some q → ∃ e ∈ s.list.entries, e.seq = q)
    ∧ ∀ x q ms, (s.lane x).state = .down q ms → s.hold.heldOn q = true

/-- A grant stands only in RUN, with the hold FREE and every fitted lane IDLE (R112). -/
def State.grantSafe (s : State) : Prop :=
  s.offUnfitted
    ∧ (s.motion.state.isGranted = true →
        s.freeze.state = .run ∧ s.hold = .free ∧ ∀ x, s.isFitted x = true → (s.lane x).state = .idle)

/-- The debounced level that a lane state implies: inactive in IDLE and CLAIMED, active in DOWN (R74, R81). -/
def State.tinesKnown (s : State) : Prop :=
  ∀ x,
    (s.lane x).tdnActive =
      match (s.lane x).state with
      | .idle => false
      | .claimed _ => false
      | .down _ _ => true
      | .off => (s.lane x).tdnActive
      | .orphaned _ => (s.lane x).tdnActive
      | .fault => (s.lane x).tdnActive

/-- Squeezes done lie between 0 and 3 in every entry and passage record, and below 3 where a squeeze can still be
counted (R75). -/
def State.squeezesBounded (s : State) : Prop :=
  (∀ e ∈ s.list.entries, ∀ x, (e.lanes.get x).squeezes ≤ 3)
    ∧ (∀ r ∈ s.passages.records, ∀ x, (r.lanes.get x).squeezes ≤ 3)
    ∧ ∀ x q, (s.lane x).tdnActive = true → (s.lane x).state.named? = some q →
        ∀ e ∈ s.list.entries, e.seq = q → (e.lanes.get x).squeezes < 3

/-- The invariant of R75, with what it rests on. -/
def State.squeezesHold (s : State) : Prop := s.claimsHold ∧ s.tinesKnown ∧ s.squeezesBounded

/-! ### The counters and the bounds (R1, R57, R61, R66, R123, R135, R141) -/

/-- Created is the entries held, departed and flushed together, and departed is the records held, taken and discarded
together, modulo 2^32; at most 32 records are held (R57, R66). -/
def State.countsAgree (s : State) : Prop :=
  s.list.created = BitVec.ofNat 32 s.list.entries.length + s.list.departed + s.list.flushed
    ∧ s.list.departed = BitVec.ofNat 32 s.passages.records.length + s.passages.taken + s.passages.discarded
    ∧ s.passages.records.length ≤ 32

/-- The axis lies within its limit, a queue holds at most 4 frames, a key window counts at most 3, and the further-cause
count is at most 15 (R1, R123, R135, R141). -/
def State.inBounds (s : State) : Prop :=
  -2147000000 ≤ s.axis.axis ∧ s.axis.axis ≤ 2147000000
    ∧ (∀ p, (s.ports.get p).queue.length ≤ 4 ∧ (s.ports.get p).keyCount ≤ 3)
    ∧ s.freeze.further ≤ 15

/-- A candidate waits to be offered only while RSTN is released, and for an AXIS PRESET that comes next (R13; log 26). -/
def State.candidateMeets (s : State) : Prop :=
  s.detector.made ≠ none → s.inReset = false ∧ ∃ p rest, s.pending = Instr.axisPreset p :: rest

/-- An axis change waits for the Sleeper List only while RSTN is released, and for an edge that comes next (R31;
log 31). -/
def State.changeMeets (s : State) : Prop :=
  s.list.changeWaits = true →
    s.inReset = false ∧ ∃ edge rest, (edge = Instr.activeEdge ∨ edge = .inactiveEdge) ∧ s.pending = edge :: rest

/-! ### The settings (R30, R138, R154) -/

/-- A value lies in a setting's domain (R154). -/
def Domain.holds (d : Domain) (v : Int) : Prop :=
  match d with
  | .range lo hi step => lo ≤ v ∧ v ≤ hi ∧ v % step = 0
  | .codes set => v ∈ set
  | .offOrRange lo hi step => v = 0 ∨ (lo ≤ v ∧ v ≤ hi ∧ v % step = 0)

/-- Every setting in its range and step, the bounds of R30, and no role of R138 held twice. -/
def Settings.legal (s : Settings) : Prop :=
  (∀ k : Setting, k.domain.holds (s.get k)) ∧ s.captureWindow ≤ s.minimumSpacing / 2 - 1 ∧ s.widthMin ≤ s.widthMax
    ∧ Settings.rolesDistinct s.roles = true

/-- The live settings are legal, and so are those that the image gives and those of the snapshot being written. -/
def State.settingsLegal (s : State) : Prop :=
  s.live.legal ∧ s.store.image.settings.legal ∧ ∀ v, s.store.save = some v → v.snapshot.legal

end Sys2Proof.Machine
end

