-- ==== Sys2Proof/WellFormed.lean ====
section
/-! DEFINITION. The well-formed commands: the operands that the spec's rules allow. Every request and every event names
its lane or port by a type with just those values; the bytes of the two frame rows are checked here. -/

namespace Sys2Proof

/-- A valid frame's body has 2 to 96 bytes (R133). -/
def WellFormed.bodyLength (body : List Byte) : Bool := decide (2 ≤ body.length) && decide (body.length ≤ 96)

/-- The bytes, taken by a port that hunts, are discarded at least once and make no valid frame (R133). -/
def WellFormed.discards (bytes : List RxByte) : Bool :=
  let events := (Machine.Frames.receiveAll .hunting bytes).2
  events.contains .discarded
    && events.all fun ev => match ev with
      | .valid _ => false
      | .discarded => true
      | .nothing => true

/-- The command is one that the spec's rules allow. -/
def Instr.wellFormed : Instr → Bool
  | .validFrame _ body => WellFormed.bodyLength body
  | .discardedFrame _ bytes => WellFormed.discards bytes
  | _ => true

end Sys2Proof
end

