-- ==== Sys2Proof/Certificates/Slice0/Obligations.lean ====
section
/-! DEFINITION. The statements for the provers. A statement of a request starts where a port hands it on (`State.hands`)
and gives the whole next state, so that what it does not write is unchanged; `settle` makes the output lines follow their
conditions, which `Obligations.OutputLinesFollow` states. -/

open Sys2Proof Sys2Proof.Machine

/-! ### The machine -/

/-- A step takes the command at the front of the queue, with the queue's rest. -/
def Obligations.StepTakesTheFrontCommand : Prop :=
  ∀ (c : Instr) (rest : List Instr) (s : State), s.pending = c :: rest → step s = exec c { s with pending := rest }

/-- On an empty queue nothing happens while RSTN is held (R159), and otherwise one millisecond passes: every running
timer advances by one, and exactly the commands that are then due enter the queue, each once: the ends of the timers
that have reached their limits, the end of a write after 120 ms, a restart whose response is sent, and the request
at the front of each port that may take it. Everything else stands but the counter of the free values, which rises
where two commands or more are ordered. The unit of time, what enters the queue and the 120 ms are the model's
choice (log 3, log 5, log 17). -/
def Obligations.EmptyQueueLetsOneMillisecondPass : Prop :=
  ∀ s : State, s.pending = [] →
    (s.inReset = true → step s = .next s) ∧
    (s.inReset = false →
      let later : State :=
        { s with
          lanes := s.lanes.map fun l =>
            { l with
              state := match l.state with
                | .down q ms => .down q (ms + 1)
                | other => other
              debounce := l.debounce.map (· + 1) }
          hold := match s.hold with
            | .lifting q t ms => .lifting q t (ms + 1)
            | .held q t ms => .held q t (ms.map (· + 1))
            | other => other
          ports := s.ports.map fun v =>
            { v with
              presence := match v.presence with
                | .present ms => .present (ms + 1)
                | .absent => .absent
              rx := match v.rx with
                | .inFrame taken ms => .inFrame taken (ms + 1)
                | .hunting => .hunting }
          events := s.events.map fun v => { v with timer := v.timer.map (· + 1) }
          store := { s.store with save := s.store.save.map fun v => { v with ms := v.ms + 1 } } }
      let due (c : Instr) : Prop :=
        later.timerDue c ∨
        (c = .saveWriteComplete ∧ ∃ v, later.store.save = some v ∧ 120 ≤ v.ms) ∨
        (c = .restartTakesEffect ∧ ∃ v, s.restart = some v ∧ v.responseSent = true) ∨
        ∃ p r, later.mayTake p = true ∧ (s.ports.get p).queue.head? = some r ∧ c = Request.command p r
      ∃ queue : List Instr, queue.Nodup ∧ (∀ c, c ∈ queue ↔ due c) ∧
        step s = .next
          { later with
            pending := queue
            freeCount := if 2 ≤ queue.length then s.freeCount + 1 else s.freeCount })

/-! ### Frames (R133 to R137) -/

/-- A hunting port that receives the bytes of a frame with a body of 2 to 96 bytes takes that body as a valid frame at its
last byte, and hunts again. -/
def Obligations.WireFrameIsReceivedWhole : Prop :=
  ∀ body : List Byte, 2 ≤ body.length → body.length ≤ 96 →
    Frames.receiveAll .hunting (Frames.onTime (Frames.wire body)) =
      (.hunting, List.replicate (body.length + 3) .nothing ++ [.valid body])

/-- A valid frame restarts its port's presence timer, makes an ABSENT port PRESENT, and is queued, or dropped where
the queue holds 4 frames. On a port that was left in frame more than 2 ms ago its start byte first discards that
frame, which is counted (log 25). In every state a VALID_FRAME is the arrival of its bytes. -/
def Obligations.ValidFrameRefreshesAndQueues : Prop :=
  ∀ (p : Port) (body : List Byte) (s : State), s.inReset = false →
    let rise (c : SatCounter) : SatCounter :=
      ⟨if c.count = 0xFFFF then 0xFFFF else c.count + 1, c.full || decide (0xFFFE ≤ c.count.toNat)⟩
    let arrival (u : State) : State :=
      let present : State := { u with ports := u.ports.modify p fun v => { v with presence := .present 0 } }
      let returned : State := if u.portPresent p then present else present.raise .portPresent
      if (u.ports.get p).queue.length < 4 then
        { returned with ports := returned.ports.modify p fun v => { v with queue := v.queue ++ [Request.ofBody body] } }
      else
        ({ returned with ports := returned.ports.modify p fun v => { v with overruns := rise v.overruns } } : State).raise
          (.queueOverrun p)
    (2 ≤ body.length → body.length ≤ 96 → (s.ports.get p).rx = .hunting →
      exec (.validFrame p body) s = .next (arrival s).settle) ∧
    (∀ taken ms, 2 ≤ body.length → body.length ≤ 96 → (s.ports.get p).rx = .inFrame taken ms → 2 < ms →
      exec (.validFrame p body) s = .next (arrival { s with ports := s.ports.modify p fun v =>
        { v with rx := .hunting, frameErrors := rise v.frameErrors } }).settle) ∧
    exec (.validFrame p body) s = exec (.discardedFrame p (Frames.onTime (Frames.wire body))) s

/-- What a port does with a byte: hunting, only the start byte opens a frame; in frame, a bad length byte, a gap of
more than 2 ms and a wrong CRC discard the frame, and any other byte before the last CRC byte is taken. A gap is
seen by the byte that ends it or by the time the port holds (log 25). Bytes that complete no valid frame change the
receiver of their port, and its frame-error counter by one for each discarded frame; nothing else. -/
def Obligations.FramesAreDiscardedByRule : Prop :=
  ((∀ b : RxByte, Frames.receive .hunting b = (if b.byte = 0xC5 then .inFrame [] 0 else .hunting, .nothing)) ∧
  (∀ (taken : List Byte) (ms : Nat) (b : RxByte), b.lateGap = true ∨ 2 < ms →
    Frames.receive (.inFrame taken ms) b = (if b.byte = 0xC5 then .inFrame [] 0 else .hunting, .discarded)) ∧
  ∀ ms : Nat, ms ≤ 2 →
    (∀ n : Byte, n.toNat < 2 ∨ 96 < n.toNat →
      Frames.receive (.inFrame [] ms) ⟨n, false⟩ = (.hunting, .discarded)) ∧
    (∀ n : Byte, 2 ≤ n.toNat → n.toNat ≤ 96 → Frames.receive (.inFrame [] ms) ⟨n, false⟩ = (.inFrame [n] 0, .nothing)) ∧
    (∀ (n b : Byte) (rest : List Byte), 2 ≤ n.toNat → n.toNat ≤ 96 → rest.length + 1 < n.toNat + 2 →
      Frames.receive (.inFrame (n :: rest) ms) ⟨b, false⟩ = (.inFrame (n :: rest ++ [b]) 0, .nothing)) ∧
    (∀ (n hi lo : Byte) (body : List Byte), 2 ≤ n.toNat → n.toNat ≤ 96 → body.length = n.toNat →
      (hi ++ lo : BitVec 16) ≠ Frames.crc16 (n :: body) →
      Frames.receive (.inFrame (n :: body ++ [hi]) ms) ⟨lo, false⟩ = (.hunting, .discarded))) ∧
  (∀ (p : Port) (bytes : List RxByte) (s : State), s.inReset = false →
    (∀ body, RxEvent.valid body ∉ (Frames.receiveAll (s.ports.get p).rx bytes).2) →
    let n := (Frames.receiveAll (s.ports.get p).rx bytes).2.count .discarded
    exec (.discardedFrame p bytes) s = .next
      ({ s with ports := s.ports.modify p fun v =>
          { v with
            rx := (Frames.receiveAll v.rx bytes).1
            frameErrors :=
              ⟨BitVec.ofNat 16 (min (v.frameErrors.count.toNat + n) 65535),
               v.frameErrors.full || decide (0 < n ∧ 65535 ≤ v.frameErrors.count.toNat + n)⟩ } } : State).settle)

/-- The end of a frame frees its port's line: what waits begins to be sent, and where a response and a status frame both
wait, either may be first. The end of the response to RESTART is noted. -/
def Obligations.FrameSentFreesTheLine : Prop :=
  ∀ (p : Port) (s : State) (f : TxFrame), s.inReset = false → (s.ports.get p).sending = some f →
    let noted : Option RestartPending :=
      if f.kind = .restartResponse then s.restart.map fun v => { v with responseSent := true } else s.restart
    ∃ (next : PortState) (count : Nat),
      exec (.frameSent p) s = .next { s with ports := s.ports.set p next, restart := noted, freeCount := count } ∧
      ((s.ports.get p).response = none → next =
        { s.ports.get p with sending := (s.ports.get p).status, status := none }) ∧
      ((s.ports.get p).status = none → next =
        { s.ports.get p with sending := (s.ports.get p).response, response := none }) ∧
      (next = { s.ports.get p with sending := (s.ports.get p).status, status := none } ∨
        next = { s.ports.get p with sending := (s.ports.get p).response, response := none })

/-- A port whose presence timer has reached the presence interval is ABSENT with its key window closed; then the
blocks take the loss by the port's role, and PORT_ABSENT is raised. Before that the row changes nothing, as
CommandsWaitTheirTurn states (log 4). -/
def Obligations.PresenceLossReachesTheBlocks : Prop :=
  ∀ (p : Port) (s : State) (ms : Nat), s.inReset = false →
    (s.ports.get p).presence = .present ms → s.live.presenceInterval ≤ ms →
    let gone : State := { s with ports := s.ports.modify p fun v => { v with presence := .absent, keyCount := 0 } }
    let orphan (x : Lane) (q : SeqNo) (t : State) : State :=
      { t with lanes := t.lanes.modify x fun l => { l with state := .orphaned q } }
    exec (.presenceTimerExpiry p) s = .next
      ((match s.roleOf p with
        | .unit x =>
          match (s.lane x).state with
          | .claimed q => (orphan x q gone).raise .laneOrphaned
          | .down q _ => ((orphan x q gone).handCause .orphanDown (.lane x) (some q)).raise .laneOrphaned
          | _ => gone
        | .geometry =>
          match s.hold.named? with
          | some q => gone.handCause .geometryLost (.port p) (some q)
          | none => gone
        | .travel =>
          if s.motion.state.isGranted then
            ({ gone with motion := ⟨.halt, s.axis.axis⟩ } : State).raise .moveEnded
          else gone
        | _ => gone).raise .portAbsent).settle

/-! ### Requests: how they are judged (R139 to R142) -/

/-- A port takes a request only while RSTN is released, no response of it waits, and neither its own SAVE nor its
own RESTART is under way (R136); a request that may not be taken, or whose code is not at the front, takes nothing
(log 1, log 2; no candidate waits for an AXIS PRESET there, log 26). The end of a timer that is not due changes
nothing (log 4). The part is quiescent when the hold is FREE, the motion state is HALT and every fitted lane is IDLE
(R142). -/
def Obligations.CommandsWaitTheirTurn : Prop :=
  (∀ (s : State) (p : Port), s.mayTake p = true ↔
    s.pins.rstn = .high ∧ (s.ports.get p).response = none ∧ (∀ v, s.store.save = some v → v.port ≠ p) ∧
      ∀ v, s.restart = some v → v.port ≠ p) ∧
  (∀ (s : State) (p : Port) (code : Byte) (c : Instr), Request.command? p code = some c → s.detector.made = none →
    s.mayTake p = false ∨ (∀ r, (s.ports.get p).queue.head? = some r → r.code ≠ code) → exec c s = .next s) ∧
  (∀ (s : State) (p : Port),
    s.mayTake p = false ∨ (∀ r, (s.ports.get p).queue.head? = some r → Request.length? r.code ≠ none) →
    exec (.unknownCode p) s = .next s) ∧
  (∀ (s : State) (c : Instr), Flags.isTimerEnd c = true → ¬ s.timerDue c → exec c s = .next s) ∧
  ∀ s : State, s.quiescent = true ↔
    s.hold = .free ∧ s.motion.state = .halt ∧ ∀ x, s.isFitted x = true → (s.lane x).state = .idle

/-- KEY opens, refreshes or closes the key window of a port with the SETUP right, and uses a count on a port without
it. PRESENT answers with the port's number, role, rights, remaining key count and the presence interval, and changes
nothing else. -/
def Obligations.KeyAndPresentAreAnswered : Prop :=
  (∀ (p : Port) (r : Request) (s : State) (key : Byte), s.hands p r 0x0D → r.params = [key] →
    let window (n : Nat) : State :=
      { s.unqueues p with ports := (s.unqueues p).ports.modify p fun v => { v with keyCount := n } }
    ((s.portRole p).setup = true → key = 0x6B →
      exec (.key p) s = .next ((window 3).sends p r .response .accepted []).settle) ∧
    ((s.portRole p).setup = true → key ≠ 0x6B →
      exec (.key p) s = .next ((window 0).sends p r .response .badKey []).settle) ∧
    ((s.portRole p).setup = false → exec (.key p) s = .next (s.refuses p r .noRight).settle)) ∧
  (∀ (p : Port) (r : Request) (s : State), s.hands p r 0x01 → r.params = [] →
    exec (.present p) s = .next
      ((s.unqueues p).answers p r .accepted
        [BitVec.ofNat 8 (Port.number p), BitVec.ofNat 8 (s.roleOf p).code, BitVec.ofNat 8 (s.portRole p).rightsCode,
         BitVec.ofNat 8 ((s.ports.get p).keyCount - 1), BitVec.ofInt 8 (s.live.presenceInterval / 10)]).settle)

/-! ### Events and status frames (R146 to R150) -/

/-- A raised event is latched in the set of exactly its target ports, by role and rights as they stand, and nothing
else changes. The events have the numbers 1 to 24 and the targets of the table of R147. -/
def Obligations.EventsLatchAtTheirTargets : Prop :=
  (∀ (s : State) (e : Event),
    (∀ p, (((s.raise e).events.get p).latched = (s.events.get p).latched ||| BitVec.twoPow 24 (e.number - 1) ∧
            e.targets p (s.portRole p) = true ∨
          ((s.raise e).events.get p).latched = (s.events.get p).latched ∧ e.targets p (s.portRole p) = false) ∧
        ((s.raise e).events.get p).mask = (s.events.get p).mask ∧
        ((s.raise e).events.get p).interval = (s.events.get p).interval ∧
        ((s.raise e).events.get p).timer = (s.events.get p).timer) ∧
    s.raise e = { s with events := (s.raise e).events } ∧
    (∀ i, (s.raise e).hasLatched i e ↔ e.targets i (s.portRole i) = true ∨ s.hasLatched i e)) ∧
  (∀ (x : Lane) (p : Port),
    [Event.frozen, .thawed, .laneFault x, .laneOrphaned, .claimRevoked x, .portAbsent, .portPresent, .holdHeld, .holdFree,
      .liftTimeout, .holdOverdue, .moveEnded, .creep, .reversed, .straggler, .listFull, .detectReject, .entryAdded,
      .entryDeparted, .passageOverflow, .queueOverrun p, .storeBlank, .storeInvalid, .started].map Event.number =
      List.range' 1 24) ∧
  ∀ (e : Event) (p : Port) (r : PortRole), e.targets p r = true ↔
    match e with
    | .frozen | .thawed | .started => True
    | .laneFault x => r.role = .unit x ∨ r.role = .geometry ∨ r.role = .observer
    | .laneOrphaned => r.role = .geometry ∨ r.role = .observer ∨ r.setup = true
    | .claimRevoked x => r.role = .unit x
    | .portAbsent | .portPresent => r.setup = true ∨ r.role = .observer
    | .holdHeld => (∃ x, r.role = .unit x) ∨ r.role = .observer
    | .holdFree => r.role = .travel ∨ (∃ x, r.role = .unit x) ∨ r.role = .observer
    | .liftTimeout | .holdOverdue => r.role = .geometry ∨ r.role = .observer
    | .moveEnded => r.role = .travel ∨ r.role = .observer
    | .creep | .reversed => r.role = .travel ∨ r.role = .geometry
    | .straggler | .entryAdded => r.role = .geometry ∨ ∃ x, r.role = .unit x
    | .listFull | .detectReject | .entryDeparted | .passageOverflow => r.role = .geometry
    | .queueOverrun q => p = q
    | .storeBlank | .storeInvalid => r.setup = true

/-- A delivery removes up to 8 of the deliverable events, the lowest-numbered, and counts those that remain. It
carries their numbers in rising order, and unused bytes are 0. -/
def Obligations.DeliveryTakesTheLowestEvents : Prop :=
  ∀ v : EventPort,
    let n := (Operands.eventNumbers v.deliverable).length
    v.chosen.length = min 8 n ∧
    (∀ i, i < 24 → (v.delivered.latched.getLsbD i = true ↔ v.latched.getLsbD i = true ∧ i + 1 ∉ v.chosen)) ∧
    (∀ i ∈ v.chosen, v.deliverable.getLsbD (i - 1) = true ∧ 1 ≤ i ∧ i ≤ 24) ∧
    (∀ i ∈ v.chosen, ∀ j, 1 ≤ j → j < i → v.deliverable.getLsbD (j - 1) = true → j ∈ v.chosen) ∧
    v.chosen.Pairwise (· < ·) ∧ v.deliveryData.length = 10 ∧
    v.deliveryData.drop 2 = v.chosen.map (BitVec.ofNat 8) ++ List.replicate (8 - v.chosen.length) 0 ∧
    v.deliveryData.take 2 = [BitVec.ofNat 8 (n - v.chosen.length), BitVec.ofNat 8 v.chosen.length] ∧
    v.delivered.mask = v.mask ∧ v.delivered.interval = v.interval ∧ v.delivered.timer = v.timer

/-- READ EVENTS makes a delivery for its port and carries it. EVENT MASK moves the selected events into or out of
the sending port's mask, and delivers nothing. STATUS INTERVAL sets the sending port's interval and restarts or
stops its timer; 1 is taken as 2 and ADJUSTED. -/
def Obligations.EventRequestsActOnTheirPort : Prop :=
  (∀ (p : Port) (r : Request) (s : State), s.hands p r 0x03 → r.params = [] →
    exec (.readEvents p) s = .next
      (({ s.unqueues p with events := s.events.modify p EventPort.delivered } : State).answers p r .accepted
        (s.events.get p).deliveryData).settle) ∧
  (∀ (p : Port) (r : Request) (s : State) (s2 s1 s0 v2 v1 v0 : Byte),
    s.hands p r 0x04 → r.params = [s2, s1, s0, v2, v1, v0] →
    let select : BitVec 24 := (s2 ++ s1 : BitVec 16) ++ s0
    let value : BitVec 24 := (v2 ++ v1 : BitVec 16) ++ v0
    ∃ mask : BitVec 24,
      (∀ i, i < 24 → mask.getLsbD i = if select.getLsbD i then value.getLsbD i else (s.events.get p).mask.getLsbD i) ∧
      exec (.eventMask p) s = .next
        (({ s.unqueues p with events := s.events.modify p fun v => { v with mask := mask } } : State).answers p r .accepted
          (Operands.carryEvents mask
            ++ [BitVec.ofNat 8 (Operands.eventNumbers ((s.events.get p).latched &&& ~~~mask)).length])).settle) ∧
  (∀ (p : Port) (r : Request) (s : State) (b : Byte), s.hands p r 0x05 → r.params = [b] →
    let units : Byte := if b = 1 then 2 else b
    exec (.statusInterval p) s = .next
      (({ s.unqueues p with events := s.events.modify p fun v =>
          { v with interval := 10 * units.toNat, timer := if units = 0 then none else some 0 } } : State).answers p r
        (if b = 1 then .adjusted else .accepted) [units]).settle)

/-- The status timer that has reached its interval forms a status frame with the state block and a delivery, unless
one still waits; it starts again. Before that the row changes nothing, as CommandsWaitTheirTurn states (log 4). -/
def Obligations.StatusTimerFormsOneFrame : Prop :=
  ∀ (p : Port) (s : State) (ms : Nat), s.inReset = false → (s.events.get p).timer = some ms →
    (s.events.get p).interval ≤ ms →
    ((s.ports.get p).status.isSome = true →
      exec (.statusTimerExpiry p) s = .next { s with events := s.events.modify p fun v => { v with timer := some 0 } }) ∧
    ((s.ports.get p).status = none →
      let f : TxFrame := ⟨.statusFrame, [0x00, 0x40] ++ s.stateBlock ++ (s.events.get p).deliveryData⟩
      f.body.length = 42 ∧
      exec (.statusTimerExpiry p) s = .next
        { s with
          events := s.events.modify p fun v => { v.delivered with timer := some 0 }
          ports := s.ports.modify p fun v =>
            { v with sending := some (v.sending.getD f), status := if v.sending.isSome then some f else none } })

/-! ### Reads (R46, R47, R63, R85, R151, R152, R156) -/

/-- READ ENTRY carries the entry with the seq given, with its index; READ REGISTER carries up to four entries from an
index on; both change nothing. -/
def Obligations.EntriesAreRead : Prop :=
  ∀ (p : Port) (r : Request) (s : State),
    (∀ hi lo : Byte, s.hands p r 0x06 → r.params = [hi, lo] →
      (s.entry? (hi ++ lo) = none →
        exec (.readEntry p) s = .next (s.refuses p r
          (if (s.portRole p).read then .unknownEntry else .noRight)).settle) ∧
      ∀ e, s.entry? (hi ++ lo) = some e →
        exec (.readEntry p) s = .next (s.afterJudging p r [(!(s.portRole p).read, .noRight)]
          ((s.unqueues p).answers p r .accepted (e.carried (s.indexOf (hi ++ lo)))))) ∧
    (∀ index count : Byte, s.hands p r 0x07 → r.params = [index, count] →
      exec (.readRegister p) s = .next (s.afterJudging p r
        [(decide (count.toNat < 1 ∨ 4 < count.toNat), .malformed), (!(s.portRole p).read, .noRight)]
        ((s.unqueues p).answers p r .accepted
          (BitVec.ofNat 8 s.list.entries.length ::
            ((s.list.entries.zipIdx.drop index.toNat).take count.toNat).flatMap fun ei => ei.1.carried ei.2))))

/-- READ STATE and READ COUNTERS change nothing and carry what they name. READ PASSAGES, READ SETTING and READ FAULT
carry what they name and change nothing. READ SETTING's numbers 1 to 36 name the settings of the table of R154 and
40 to 45 the role and rights of the six ports, in their carried forms; no other number names a setting. -/
def Obligations.StateAndRecordsAreRead : Prop :=
  (∀ (p : Port) (r : Request) (s : State), r.params = [] →
    (s.hands p r 0x02 →
      exec (.readState p) s = .next ((s.unqueues p).answers p r .accepted (s.stateBlock ++ s.freeze.carried)).settle) ∧
    (s.hands p r 0x09 →
      exec (.readCounters p) s = .next (s.afterJudging p r [(!(s.portRole p).read, .noRight)]
        ((s.unqueues p).answers p r .accepted
          ([s.list.created, s.list.departed, s.list.flushed, s.passages.taken, s.passages.discarded,
              s.detector.candidates, s.detector.rejects, s.lanes.a.squeezes, s.lanes.b.squeezes, s.lanes.c.squeezes,
              s.lanes.d.squeezes].flatMap Operands.carry4
            ++ Port.all.flatMap fun i =>
              Operands.carry2 (s.ports.get i).frameErrors.count ++ Operands.carry2 (s.ports.get i).overruns.count
                ++ [BitVec.ofNat 8 ((s.ports.get i).frameErrors.full.toNat + 2 * (s.ports.get i).overruns.full.toNat)]))))) ∧
  (∀ (p : Port) (r : Request) (s : State) (b : Byte), r.params = [b] →
    (s.hands p r 0x08 →
      exec (.readPassages p) s = .next (s.afterJudging p r
        [(decide (b.toNat < 1 ∨ 4 < b.toNat), .malformed), (!(s.portRole p).read, .noRight)]
        ((s.unqueues p).answers p r .accepted
          (BitVec.ofNat 8 s.passages.records.length :: (Operands.carry4 s.passages.discarded
            ++ BitVec.ofNat 8 (min b.toNat s.passages.records.length)
              :: (s.passages.records.take b.toNat).flatMap PassageRecord.carried))))) ∧
    (s.hands p r 0x0A → ∀ v, s.live.read? b.toNat = some v →
      exec (.readSetting p) s = .next (s.afterJudging p r [(!(s.portRole p).read, .noRight)]
        ((s.unqueues p).answers p r .accepted (b :: Operands.carryAxis v)))) ∧
    (s.hands p r 0x0A → s.live.read? b.toNat = none → exec (.readSetting p) s = .next (s.refuses p r .malformed).settle) ∧
    (s.hands p r 0x0B → ∀ x : Lane, b.toNat = Lane.code x →
      exec (.readFault p) s = .next (s.afterJudging p r [(!(s.portRole p).read, .noRight)]
        ((s.unqueues p).answers p r .accepted ((s.lane x).carriedFault x)))) ∧
    (s.hands p r 0x0B → 3 < b.toNat → exec (.readFault p) s = .next (s.refuses p r .malformed).settle)) ∧
  (∀ s : Settings,
    let bit (b : Bool) (n : Int) : Int := if b then n else 0
    let low (v : Polarity) : Int := if v = .activeLow then 1 else 0
    (List.range' 1 36).map s.read? =
      ([s.linkRate, s.presenceInterval, s.defaultStatusInterval,
        bit s.lanesFitted.a 1 + bit s.lanesFitted.b 2 + bit s.lanesFitted.c 4 + bit s.lanesFitted.d 8,
        s.defaultNeed.a, s.defaultNeed.b, s.defaultNeed.c, s.defaultNeed.d,
        s.laneOffset.a, s.laneOffset.b, s.laneOffset.c, s.laneOffset.d,
        low s.tdnPolarity.a, low s.tdnPolarity.b, low s.tdnPolarity.c, low s.tdnPolarity.d,
        s.scalerBase, s.scalerPattern, if s.directionSign = .highReverse then 1 else 0, s.detectorLead,
        if s.edgeMode = .leading then 0 else if s.edgeMode = .trailing then 1 else 2, low s.sdetPolarity, s.nominalWidth,
        s.widthMin, s.widthMax, s.captureWindow, s.minimumSpacing, s.claimWindow, s.holdWindow, s.retireDistance,
        s.creepTolerance, s.liftTimeout, s.holdOverdue, s.downLimit, s.tdnDebounce, s.deepLift].map some) ∧
    (∀ p : Port, s.read? (40 + Port.number p) = some
      (256 * (s.roles.get p).role.code + bit (s.roles.get p).setup 1 + bit (s.roles.get p).freeze 2
        + bit (s.roles.get p).read 4)) ∧
    ∀ n : Nat, n = 0 ∨ (36 < n ∧ n < 40) ∨ 45 < n → s.read? n = none)

/-- The state block, the entry, the passage record, the freeze record and the fault record carry their fields at the
offsets of R144 and R145, with their flags bytes and packed lane records; READ COUNTERS carries 74 bytes. The seq
bytes of a seq that is none are 0 (the model's reading, log 11). Numbers are carried most significant byte first,
signed ones in two's complement, and every state, result, role, right, kind, status, outcome, cause and source by
the code of its table. -/
def Obligations.LayoutsCarryTheirFields : Prop :=
  (let field (l : List Byte) (offset n : Nat) : List Byte := (l.drop offset).take n
  let bit (b : Bool) (n : Nat) : Nat := if b then n else 0
  let seq (q : Option SeqNo) : List Byte :=
    match q with
    | none => [0, 0, 0]
    | some q => 1 :: Operands.carry2 q
  (∀ s : State,
    let b := s.stateBlock
    let names (x : Lane) : Option SeqNo := (s.lane x).state.named?
    b.length = 30 ∧
    field b 0 3 = [BitVec.ofNat 8 s.freeze.state.code, BitVec.ofNat 8 s.freeze.cause.code, BitVec.ofNat 8 s.hold.code] ∧
    field b 3 2 = Operands.carry2 (s.hold.named?.getD 0) ∧
    field b 5 2 = [BitVec.ofNat 8 s.motion.state.code, BitVec.ofNat 8 s.axis.direction.code] ∧
    field b 7 4 = Operands.carryAxis s.axis.axis ∧
    field b 11 4 = Lane.all.map (fun x => BitVec.ofNat 8 (s.lane x).state.code) ∧
    field b 15 8 = Lane.all.flatMap (fun x => Operands.carry2 ((names x).getD 0)) ∧
    field b 23 2 =
      [BitVec.ofNat 8 (bit s.hold.named?.isSome 1 + bit (names .a).isSome 2 + bit (names .b).isSome 4
        + bit (names .c).isSome 8 + bit (names .d).isSome 16 + bit (decide (s.list.entries ≠ [])) 32),
       BitVec.ofNat 8 s.list.entries.length] ∧
    field b 25 2 = Operands.carry2 ((s.list.entries.head?.map Entry.seq).getD 0) ∧
    field b 27 2 = Operands.carry2 ((s.list.entries.getLast?.map Entry.seq).getD 0) ∧
    field b 29 1 = [BitVec.ofNat 8 s.passages.records.length]) ∧
  (∀ (e : Entry) (i : Nat), e.seen ≤ 15 →
    let b := e.carried i
    b.length = 23 ∧ field b 0 3 = Operands.carry2 e.seq ++ [BitVec.ofNat 8 i] ∧
    field b 3 4 = Operands.carryAxis e.position ∧ field b 7 2 = Operands.carry2 (BitVec.ofNat 16 e.width) ∧
    field b 9 2 =
      [BitVec.ofNat 8 (bit (decide (e.origin = .placed)) 1 + bit e.gap 2 + bit e.overdue 4 + bit e.deferred 8
        + bit e.target.isSome 16), BitVec.ofNat 8 (e.seen + 16 * e.kind.code)] ∧
    field b 11 4 = (match e.target with
      | none => [0, 0, 0, 0]
      | some t => [BitVec.ofNat 8 t.left, BitVec.ofNat 8 t.right] ++ Operands.carry2 (BitVec.ofInt 16 t.line)) ∧
    field b 15 8 = Lane.all.flatMap fun x => (e.lanes.get x).carried) ∧
  (∀ r : PassageRecord, r.seen ≤ 15 →
    let b := r.carried
    b.length = 20 ∧ field b 0 2 = Operands.carry2 r.seq ∧ field b 2 4 = Operands.carryAxis r.position ∧
    field b 6 2 = Operands.carry2 (BitVec.ofNat 16 r.width) ∧
    field b 8 4 =
      [BitVec.ofNat 8 (bit (decide (r.origin = .placed)) 1 + bit r.gap 2 + bit r.overdue 4),
       BitVec.ofNat 8 (r.seen + 16 * r.kind.code), BitVec.ofNat 8 r.outcome.code, 0] ∧
    field b 12 8 = Lane.all.flatMap fun x => (r.lanes.get x).carried) ∧
  (∀ f : FreezeUnit, f.carried =
    [BitVec.ofNat 8 f.state.code, BitVec.ofNat 8 f.cause.code, BitVec.ofNat 8 f.source.code]
      ++ Operands.carryAxis f.axis ++ seq f.seq
      ++ [BitVec.ofNat 8 f.further, match f.lastFurther with | none => 0 | some c => BitVec.ofNat 8 c.code]) ∧
  (∀ (x : Lane) (l : LaneController), l.carriedFault x =
    [BitVec.ofNat 8 (Lane.code x), BitVec.ofNat 8 l.state.code]
      ++ match l.fault with
        | none => List.replicate 12 0
        | some f =>
          [1, BitVec.ofNat 8 f.cause.code] ++ seq f.seq ++ Operands.carryAxis f.axis
            ++ Operands.carry2 (BitVec.ofNat 16 f.detail) ++ [BitVec.ofNat 8 f.secondFaults]) ∧
  (∀ s : State, s.counters.length = 74) ∧
  (∀ r : LaneRecord, r.need ≤ 3 → r.squeezes ≤ 3 →
    r.carried = [BitVec.ofNat 8 (r.need + 4 * r.squeezes + 16 * r.mask.toNat), BitVec.ofNat 8 r.status.code]) ∧
  ∀ r : PassageLane, r.need ≤ 3 → r.squeezes ≤ 3 →
    r.carried = [BitVec.ofNat 8 (r.need + 4 * r.squeezes), BitVec.ofNat 8 r.status.code]) ∧
  ((∀ w : BitVec 16, (Operands.carry2 w).length = 2 ∧
    (Operands.carry2 w).foldl (fun n b => 256 * n + b.toNat) 0 = w.toNat) ∧
  (∀ w : BitVec 32, (Operands.carry4 w).length = 4 ∧
    (Operands.carry4 w).foldl (fun n b => 256 * n + b.toNat) 0 = w.toNat) ∧
  (∀ w : BitVec 24, (Operands.carryEvents w).length = 3 ∧
    (Operands.carryEvents w).foldl (fun n b => 256 * n + b.toNat) 0 = w.toNat) ∧
  (∀ i : Int, Operands.carryAxis i = Operands.carry4 (BitVec.ofInt 32 i)) ∧
  (∀ b3 b2 b1 b0 : Byte, Operands.carryAxis (Operands.signed4 b3 b2 b1 b0) = [b3, b2, b1, b0]) ∧
  (∀ v : PerLane Bool, Operands.laneSet v = v.a.toNat + 2 * v.b.toNat + 4 * v.c.toNat + 8 * v.d.toNat) ∧
  (∀ r : PortRole, r.rightsCode = r.setup.toNat + 2 * r.freeze.toNat + 4 * r.read.toNat) ∧
  [Role.unused, .geometry, .unit .a, .unit .b, .unit .c, .unit .d, .travel, .observer].map Role.code = List.range 8 ∧
  Port.all.map Port.number = List.range 6 ∧ Lane.all.map Lane.code = List.range 4 ∧
  [Kind.plain, .bearer, .omitted].map Kind.code = List.range 3 ∧
  [LaneStatus.unclaimed, .claimed, .worked, .waived, .failed].map LaneStatus.code = List.range 5 ∧
  [PassageOutcome.complete, .waived, .missed, .failed, .struck].map PassageOutcome.code = List.range 5 ∧
  [Direction.forward, .reverse].map Direction.code = List.range 2 ∧
  (∀ (q : SeqNo) (ms : Nat),
    [LaneState.off, .idle, .claimed q, .down q ms, .orphaned q, .fault].map LaneState.code = List.range 6) ∧
  (∀ (q : SeqNo) (t : LiftTarget) (ms : Nat) (o : Option Nat),
    [HoldState.free, .lifting q t ms, .held q t o, .opening q t].map HoldState.code = List.range 4) ∧
  (∀ (start : Int) (d : Nat), [MotionState.halt, .granted start d].map MotionState.code = List.range 2) ∧
  [FreezeState.run, .frozen].map FreezeState.code = List.range 2 ∧
  [FreezeCause.start, .restart, .request, .line, .unpermittedDescent, .creepUnderLoad, .orphanDown, .geometryLost,
    .axisLimit].map FreezeCause.code = List.range' 1 9 ∧
  [LaneFaultCause.unpermittedDescent, .downTooLong, .squeezeOvercount].map LaneFaultCause.code = List.range' 1 3 ∧
  (∀ (p : Port) (x : Lane), [FreezeSource.nowhere, .port p, .lane x, .frzin].map FreezeSource.code =
    [0x00, 0x10 + Port.number p, 0x20 + Lane.code x, 0x30]) ∧
  [Result.accepted, .adjusted].map Result.code = [0x00, 0x01] ∧
  [Result.malformed, .noRight, .protectedRequest, .badKey, .frozen, .storeBusy, .notQuiescent, .unknownEntry, .wrongState,
    .moving, .outOfWindow, .obstacle, .shortWork, .lanesDown, .claimsOpen, .noTarget, .conditions, .roleConflict,
    .duplicate, .spacing, .full].map Result.code = List.range' 0x11 21)

/-! ### The axis (R2 to R12) -/

/-- A pulse moves the axis, the phase and the direction by the scaler, unless the axis limit forbids it; then it
hands AXIS_LIMIT. REVERSED is raised at a turn to REVERSE and not otherwise, DETECT_REJECT where a reverse pulse
discards a candidate in flight and not otherwise. The Sleeper List takes the axis change at once; where the next
command is an edge, the change may wait until that edge's candidate is offered (R31), a free value (the model's
choice, log 31). -/
def Obligations.PulseMovesTheAxis : Prop :=
  ∀ (odb : Level) (s : State), s.inReset = false →
    let forward : Bool := decide (odb = .high) == decide (s.live.directionSign = .highForward)
    let ext (g : Fin 4) : Int :=
      if (s.live.scalerPattern = 1 ∧ g = 1) ∨ (s.live.scalerPattern = 2 ∧ (g = 0 ∨ g = 2)) ∨
        (s.live.scalerPattern = 3 ∧ g ≠ 3) then 1 else 0
    let g := s.axis.phase
    let u : AxisUnit :=
      if forward then ⟨s.axis.axis + s.live.scalerBase + ext g, g + 1, .forward⟩
      else ⟨s.axis.axis - s.live.scalerBase - ext (g - 1), g - 1, .reverse⟩
    let sampled : State := { s with pins := { s.pins with odb := odb } }
    let retired : State := ({ s with axis := u } : State).retire
    let listEvents : List Event := [.entryDeparted, .passageOverflow, .straggler]
    let meets : Prop := ∃ rest, s.pending = .activeEdge :: rest ∨ s.pending = .inactiveEdge :: rest
    let takes (t : State) : Prop := t.list = retired.list ∧ t.passages = retired.passages ∧
      ∀ p, ∀ e ∈ listEvents, (t.hasLatched p e ↔ retired.hasLatched p e)
    let waits (t : State) : Prop := t.list = { s.list with changeWaits := true } ∧ t.passages = s.passages ∧
      ∀ p, ∀ e ∈ listEvents, (t.hasLatched p e ↔ s.hasLatched p e)
    (2147000000 < u.axis ∨ u.axis < -2147000000 →
      exec (.pulse odb) s = .next (sampled.handCause .axisLimit .nowhere none).settle) ∧
    (-2147000000 ≤ u.axis → u.axis ≤ 2147000000 → ∃ t,
      exec (.pulse odb) s = .next t ∧ t.axis = u ∧
      (∀ p, t.hasLatched p .reversed ↔ s.hasLatched p .reversed ∨
        (Event.reversed.targets p (s.portRole p) = true ∧ forward = false ∧ s.axis.direction = .forward)) ∧
      (∀ p, t.hasLatched p .detectReject ↔ s.hasLatched p .detectReject ∨
        (Event.detectReject.targets p (s.portRole p) = true ∧ forward = false ∧ s.detector.inFlight ≠ none)) ∧
      t.detector.inFlight = (if forward then s.detector.inFlight else none) ∧
      t.detector.rejects = (if forward || s.detector.inFlight.isNone then s.detector.rejects
        else s.detector.rejects + 1) ∧
      (¬ meets → takes t ∧ t.freeCount = s.freeCount) ∧ (meets → (takes t ∨ waits t) ∧ t.freeCount = s.freeCount + 1) ∧
      t.detector.made = s.detector.made ∧ t.detector.candidates = s.detector.candidates ∧
      t.detector.sdetActive = s.detector.sdetActive ∧
      t.lanes = s.lanes ∧ t.hold = s.hold ∧ t.ports = s.ports ∧ t.restart = s.restart ∧ t.store = s.store ∧
      t.pending = s.pending ∧
      s.raisesOnly t [.reversed, .detectReject, .entryDeparted, .passageOverflow, .straggler, .moveEnded, .creep,
        .frozen] ∧
      t.pins = { s.pins with odb := odb, dpm := t.pins.dpm, movok := t.pins.movok, frzout := t.pins.frzout })

/-- The Motion Unit at an applied pulse: a grant whose distance is run ends at the new axis with MOVE_ENDED, raised
for nothing else; in HALT, movement beyond the creep tolerance is harmless without a load, with CREEP, raised for
nothing else, and a freeze cause under load, with FROZEN where it enters FROZEN and at no other pulse. -/
def Obligations.PulseRunsTheGrantAndCreeps : Prop :=
  ∀ (odb : Level) (s t : State), s.inReset = false → exec (.pulse odb) s = .next t → t.axis ≠ s.axis →
    let load : Prop := s.hold ≠ .free ∨
      ∃ x, s.isFitted x = true ∧ ((s.lane x).state.isDown = true ∨ ((s.lane x).state = .fault ∧ (s.lane x).tdnActive = true))
    (∀ start distance, s.motion.state = .granted start distance →
      t.freeze = s.freeze ∧
      (((t.axis.axis - start).natAbs < distance → t.motion = s.motion) ∧
        (distance ≤ (t.axis.axis - start).natAbs → t.motion = ⟨.halt, t.axis.axis⟩))) ∧
    (s.motion.state = .halt →
      let far : Prop := s.live.creepTolerance < (t.axis.axis - s.motion.haltPoint).natAbs
      (¬ far → t.motion = s.motion ∧ t.freeze = s.freeze) ∧
      (far → ¬ load → t.motion = ⟨.halt, t.axis.axis⟩ ∧ t.freeze = s.freeze) ∧
      (far → load → s.freeze.state = .run → t.motion = ⟨.halt, t.axis.axis⟩ ∧
        t.freeze = ⟨.frozen, .creepUnderLoad, .nowhere, t.axis.axis, s.hold.named?, 0, none⟩) ∧
      (far → load → s.freeze.state = .frozen → t.motion = s.motion ∧
        t.freeze = { s.freeze with further := min (s.freeze.further + 1) 15, lastFurther := some .creepUnderLoad })) ∧
    (∀ p, t.hasLatched p .moveEnded ↔ s.hasLatched p .moveEnded ∨ (Event.moveEnded.targets p (s.portRole p) = true ∧
      ∃ start distance, s.motion.state = .granted start distance ∧ distance ≤ (t.axis.axis - start).natAbs)) ∧
    (∀ p, t.hasLatched p .creep ↔ s.hasLatched p .creep ∨ (Event.creep.targets p (s.portRole p) = true ∧
      s.motion.state = .halt ∧ s.live.creepTolerance < (t.axis.axis - s.motion.haltPoint).natAbs ∧ ¬ load)) ∧
    ∀ p, t.hasLatched p .frozen ↔ s.hasLatched p .frozen ∨ (s.motion.state = .halt ∧
      s.live.creepTolerance < (t.axis.axis - s.motion.haltPoint).natAbs ∧ load ∧ s.freeze.state = .run)

/-- AXIS PRESET sets the axis with g = 0 on an empty list in a quiescent part; the halt point follows and a
candidate in flight is discarded. No candidate waits for it here; EdgesMakeCandidates states what a waiting one
does. -/
def Obligations.AxisPresetSetsTheAxis : Prop :=
  ∀ (p : Port) (r : Request) (s : State), s.hands p r 0x37 → s.detector.made = none →
    (r.params.length ≠ 4 → exec (.axisPreset p) s = .next (s.refuses p r .malformed).settle) ∧
    ∀ b3 b2 b1 b0 : Byte, r.params = [b3, b2, b1, b0] →
    let v : Int := Operands.signed4 b3 b2 b1 b0
    exec (.axisPreset p) s = .next (s.afterJudging p r
      [(decide (v < -2147000000 ∨ 2147000000 < v), .malformed), (!(s.portRole p).setup, .noRight),
       (decide ((s.ports.get p).keyCount = 0), .protectedRequest), (!s.quiescent, .notQuiescent),
       (!s.list.entries.isEmpty, .wrongState)]
      (({ s.unqueues p with
          axis := ⟨v, 0, s.axis.direction⟩
          detector := { s.detector with inFlight := none }
          motion := { s.motion with haltPoint := v } } : State).answers p r .accepted
        ([b3, b2, b1, b0, 0] ++ [BitVec.ofNat 8 s.axis.direction.code])))

/-! ### Sleeper detection (R17 to R29) -/

/-- An edge of SDET in forward travel makes a candidate, opens one or closes one by the edge mode; in REVERSE only
the level is taken, and a line already at the level changes nothing (log 2). A candidate made is offered at once,
but where the next command takes an AXIS PRESET either may be first (R13), a free value (the model's choice, log
26): the preset taken first, the candidate is then offered with the centre it was made with. An axis change that
waited for the edge is taken by the Sleeper List right after it, so the candidate is decided before the retirement
(R31; that the change waits is a free value, log 31). -/
def Obligations.EdgesMakeCandidates : Prop :=
  (∀ s : State, s.inReset = false → s.list.changeWaits = false →
    (s.sdetLineActive = false →
      let taken : State :=
        { s with pins := { s.pins with sdet := s.live.sdetPolarity.activeLevel },
                 detector := { s.detector with sdetActive := true } }
      exec .activeEdge s = .next (match s.axis.direction, s.live.edgeMode with
        | .reverse, _ => taken
        | .forward, .leading => taken.makeCandidate ⟨s.axis.axis + s.live.nominalWidth / 2 + s.live.detectorLead, 0⟩
        | .forward, .trailing => taken
        | .forward, .both => { taken with detector := { taken.detector with inFlight := some s.axis.axis } }).settle) ∧
    (s.sdetLineActive = true →
      let taken : State :=
        { s with pins := { s.pins with sdet := s.live.sdetPolarity.inactiveLevel },
                 detector := { s.detector with sdetActive := false } }
      let closed : State := { taken with detector := { taken.detector with inFlight := none } }
      exec .inactiveEdge s = .next (match s.axis.direction, s.live.edgeMode, s.detector.inFlight with
        | .reverse, _, _ => taken
        | .forward, .leading, _ => taken
        | .forward, .trailing, _ => taken.makeCandidate ⟨s.axis.axis - s.live.nominalWidth / 2 + s.live.detectorLead, 0⟩
        | .forward, .both, none => taken
        | .forward, .both, some a =>
          if s.axis.axis - a < s.live.widthMin ∨ s.live.widthMax < s.axis.axis - a then
            ({ closed with detector := { closed.detector with rejects := s.detector.rejects + 1 } } : State).raise
              .detectReject
          else closed.makeCandidate ⟨(a + s.axis.axis) / 2 + s.live.detectorLead, (s.axis.axis - a).toNat⟩).settle)) ∧
  (∀ s : State, s.list.changeWaits = false → (s.sdetLineActive = true → exec .activeEdge s = .next s) ∧
    (s.sdetLineActive = false → exec .inactiveEdge s = .next s)) ∧
  (∀ (s : State) (edge : Instr), edge = .activeEdge ∨ edge = .inactiveEdge → s.inReset = false →
    s.list.changeWaits = true →
    ∃ t, exec edge { s with list := { s.list with changeWaits := false } } = .next t ∧
      exec edge s = .next t.retire.settle) ∧
  (∀ (s : State) (c : Candidate),
    let counted : State := { s with freeCount := s.freeCount + 1 }
    let meets : Prop := ∃ p r rest, s.pending = Instr.axisPreset p :: rest ∧ s.hands p r 0x37
    (¬ meets → s.makeCandidate c = s.offer c.centre c.width) ∧
    (meets → s.makeCandidate c = counted.offer c.centre c.width ∨
      s.makeCandidate c = { counted with detector := { s.detector with made := some c } })) ∧
  ∀ (p : Port) (s : State) (c : Candidate), s.inReset = false → s.detector.made = some c →
    ∃ t, exec (.axisPreset p) { s with detector := { s.detector with made := none } } = .next t ∧
      exec (.axisPreset p) s = .next (t.offer c.centre c.width).settle

/-! ### The Sleeper List and the Passage List (R34 to R64) -/

/-- An offered candidate is counted, and is a re-detection of the nearest entry within the capture window, or
rejected at the tail, or lost to a full list, or appended as the new tail with the pending gap. The seq that a new
entry takes is the first from next seq on that no entry holds. -/
def Obligations.OfferIsDecided : Prop :=
  (∀ (s : State) (c : Int) (w : Nat), s.listOrdered →
    let counted : State := { s with detector := { s.detector with candidates := s.detector.candidates + 1 } }
    let near (e : Entry) : Prop := e.position - c ≤ s.live.captureWindow ∧ c - e.position ≤ s.live.captureWindow
    let tailRejects : Prop := 2147000000 < c ∨
      ∃ e, s.list.entries.getLast? = some e ∧ (c ≤ e.position ∨ c - e.position < s.live.minimumSpacing)
    (∀ e ∈ s.list.entries, near e →
      (∀ f ∈ s.list.entries, near f → (e.position - c).natAbs < (f.position - c).natAbs ∨
        ((e.position - c).natAbs = (f.position - c).natAbs ∧ e.position ≤ f.position)) →
      s.offer c w = { counted with list := { s.list with entries := s.list.entries.map fun f =>
        if f.seq = e.seq then { f with seen := min (f.seen + 1) 15 } else f } }) ∧
    ((∀ e ∈ s.list.entries, ¬ near e) → tailRejects →
      s.offer c w = ({ counted with detector := { counted.detector with rejects := s.detector.rejects + 1 } } : State).raise
        .detectReject) ∧
    ((∀ e ∈ s.list.entries, ¬ near e) → ¬ tailRejects → s.list.entries.length = 48 →
      s.offer c w = ({ counted with
          detector := { counted.detector with rejects := s.detector.rejects + 1 }
          list := { s.list with pendingGap := true } } : State).raise .listFull) ∧
    ((∀ e ∈ s.list.entries, ¬ near e) → ¬ tailRejects → s.list.entries.length < 48 →
      s.offer c w = ({ counted with list := { s.list with
          entries := s.list.entries ++
            [⟨s.list.takenSeq, c, w, .detected, 1, s.list.pendingGap, .plain, none, false, false,
              .ofFn fun x => ⟨(s.live.defaultNeed.get x).toNat, 0, .unclaimed, 0⟩⟩]
          nextSeq := s.list.takenSeq + 1
          pendingGap := false
          created := s.list.created + 1 } } : State).raise .entryAdded)) ∧
  (∀ l : SleeperList, l.entries.length ≤ 48 →
    ∃ k : Nat, k ≤ l.entries.length ∧ l.takenSeq = l.nextSeq + BitVec.ofNat 16 k ∧
      l.takenSeq ∉ l.entries.map Entry.seq ∧ ∀ j < k, l.nextSeq + BitVec.ofNat 16 j ∈ l.entries.map Entry.seq)

/-- Retirement takes the due entries from the head up to the first that is held back or not due, hands their passage
records on with the fields R60 copies, and marks a due head that is held back as deferred. The Passage List keeps
the 32 newest records. ENTRY_DEPARTED, PASSAGE_OVERFLOW and, for a head not yet deferred, STRAGGLER are raised for
these and for nothing else. The outcome of an entry that retires, over the fitted lanes with a need above 0. -/
def Obligations.RetirementTakesDueEntries : Prop :=
  (∀ s : State, s.passages.records.length ≤ 32 →
    let due (e : Entry) : Bool := decide (e.position + s.live.retireDistance < s.axis.axis)
    let kept (e : Entry) : Bool :=
      decide (∃ x ∈ Lane.all, (e.lanes.get x).status = .claimed) || decide (s.hold.named? = some e.seq)
    let gone := s.list.entries.takeWhile fun e => due e && !kept e
    let rest := s.list.entries.dropWhile fun e => due e && !kept e
    let records := s.passages.records ++ gone.map fun e => e.passage (s.outcome e)
    s.raisesOnly s.retire [.entryDeparted, .passageOverflow, .straggler] ∧
    s.retire = { s with events := s.retire.events, list := s.retire.list, passages := s.retire.passages } ∧
    s.retire.list = { s.list with
      entries := match rest with
        | [] => []
        | e :: more => { e with deferred := e.deferred || due e } :: more
      departed := s.list.departed + BitVec.ofNat 32 gone.length } ∧
    s.retire.passages = { s.passages with
      records := records.drop (records.length - 32)
      discarded := s.passages.discarded + BitVec.ofNat 32 (records.length - 32) } ∧
    (∀ p, s.retire.hasLatched p .entryDeparted ↔ s.hasLatched p .entryDeparted ∨
      (Event.entryDeparted.targets p (s.portRole p) = true ∧ gone ≠ [])) ∧
    (∀ p, s.retire.hasLatched p .passageOverflow ↔ s.hasLatched p .passageOverflow ∨
      (Event.passageOverflow.targets p (s.portRole p) = true ∧ 32 < records.length)) ∧
    (∀ p, s.retire.hasLatched p .straggler ↔ s.hasLatched p .straggler ∨
      (Event.straggler.targets p (s.portRole p) = true ∧
        ∃ e ∈ rest.head?, due e = true ∧ e.deferred = false)) ∧
    ∀ (e : Entry) (o : PassageOutcome), e.passage o =
      ⟨e.seq, e.position, e.width, e.origin, e.seen, e.gap, e.kind, e.overdue, o,
        .ofFn fun x => ⟨(e.lanes.get x).need, (e.lanes.get x).status, (e.lanes.get x).squeezes⟩⟩) ∧
  (∀ (s : State) (e : Entry),
    let has (st : LaneStatus) : Prop := ∃ x, s.isFitted x = true ∧ 0 < (e.lanes.get x).need ∧ (e.lanes.get x).status = st
    (has .failed → s.outcome e = .failed) ∧
    (¬ has .failed → has .unclaimed → s.outcome e = .missed) ∧
    (¬ has .failed → ¬ has .unclaimed → has .waived → s.outcome e = .waived) ∧
    (¬ has .failed → ¬ has .unclaimed → ¬ has .waived → s.outcome e = .complete))

/-- ANNOTATE legalises what it carries, applies the kind rule, and writes the entry whole, unless it would change a lane
that is not OPEN or the lift target of the held entry. -/
def Obligations.AnnotateWritesTheValuesTaken : Prop :=
  ∀ (p : Port) (r : Request) (s : State) (qh ql kb sel left right lh ll : Byte) (n m : PerLane Byte) (kind : Kind),
    s.hands p r 0x10 →
    r.params = [qh, ql, kb, n.a, n.b, n.c, n.d, m.a, m.b, m.c, m.d, sel, left, right, lh, ll] →
    kb.toNat = kind.code → sel.toNat ≤ 2 →
    let q : SeqNo := qh ++ ql
    let need (b : Byte) : Nat :=
      match kind with
      | .plain => min b.toNat 3
      | .bearer => if min b.toNat 3 = 1 then 2 else min b.toNat 3
      | .omitted => 0
    let line : Int := (lh ++ ll : BitVec 16).toInt
    let target : LiftTarget := ⟨min left.toNat 200, min right.toNat 200, max (-150) (min 150 line)⟩
    let changed : Bool :=
      decide (∃ x ∈ Lane.all, need (n.get x) ≠ (n.get x).toNat ∨ 16 ≤ (m.get x).toNat) ||
        decide (sel = 1 ∧ target ≠ ⟨left.toNat, right.toNat, line⟩)
    let targetOf (e : Entry) : Option LiftTarget := if sel = 0 then none else if sel = 1 then some target else e.target
    let write (e : Entry) : Entry :=
      { e with
        kind := kind
        target := targetOf e
        lanes := .ofFn fun x => ⟨need (n.get x), (m.get x).extractLsb' 0 4, (e.lanes.get x).status,
          (e.lanes.get x).squeezes⟩ }
    let written := s.list.entries.map fun f => if f.seq = q then write f else f
    (s.entry? q = none →
      exec (.annotate p) s = .next (s.afterJudging p r
        [(decide (s.roleOf p ≠ .geometry), .noRight), (decide (s.freeze.state = .frozen), .frozen), (true, .unknownEntry)]
        s)) ∧
    ∀ e, s.entry? q = some e →
      exec (.annotate p) s = .next (s.afterJudging p r
        [(decide (s.roleOf p ≠ .geometry), .noRight), (decide (s.freeze.state = .frozen), .frozen),
         (decide (∃ x ∈ Lane.all, (e.lanes.get x).status ≠ .unclaimed ∧
            ((e.lanes.get x).need ≠ need (n.get x) ∨ (e.lanes.get x).mask ≠ (m.get x).extractLsb' 0 4)), .wrongState),
         (decide (s.hold.named? = some q ∧ targetOf e ≠ e.target), .wrongState)]
        (({ s.unqueues p with list := { s.list with entries := written } } : State).answers p r
          (if changed then .adjusted else .accepted) ((write e).carried (s.indexOf q))))

/-- PLACE puts a new entry at its place in position order, and a new tail takes the pending gap. -/
def Obligations.PlaceCreatesAnEntry : Prop :=
  ∀ (p : Port) (r : Request) (s : State) (b3 b2 b1 b0 wh wl : Byte),
    s.hands p r 0x11 → r.params = [b3, b2, b1, b0, wh, wl] → s.listOrdered → 1 ≤ s.live.minimumSpacing →
    let v : Int := Operands.signed4 b3 b2 b1 b0
    let w := (wh ++ wl : BitVec 16).toNat
    let below := s.list.entries.filter fun e => decide (e.position < v)
    let above := s.list.entries.filter fun e => decide (v < e.position)
    let e : Entry :=
      ⟨s.list.takenSeq, v, min w 600, .placed, 1, above.isEmpty && s.list.pendingGap, .plain, none, false, false,
        .ofFn fun x => ⟨(s.live.defaultNeed.get x).toNat, 0, .unclaimed, 0⟩⟩
    exec (.place p) s = .next (s.afterJudging p r
      [(decide (v < -2147000000 ∨ 2147000000 < v), .malformed), (decide (s.roleOf p ≠ .geometry), .noRight),
       (decide (s.freeze.state = .frozen), .frozen), (decide (v + s.live.retireDistance < s.axis.axis), .outOfWindow),
       (decide (∃ f ∈ s.list.entries, (f.position - v).natAbs ≤ s.live.captureWindow), .duplicate),
       (decide (∃ f ∈ s.list.entries, (f.position - v).natAbs < s.live.minimumSpacing), .spacing),
       (decide (s.list.entries.length = 48), .full)]
      ((({ s.unqueues p with list := { s.list with
          entries := below ++ e :: above
          nextSeq := e.seq + 1
          pendingGap := s.list.pendingGap && !above.isEmpty
          created := s.list.created + 1 } } : State).raise .entryAdded).answers p r
        (if 600 < w then .adjusted else .accepted) (Operands.carry2 e.seq ++ [BitVec.ofNat 8 below.length])))

/-- STRIKE makes an untouched entry depart STRUCK, then retries retirement. -/
def Obligations.StrikeDepartsTheEntry : Prop :=
  ∀ (p : Port) (r : Request) (s : State), s.hands p r 0x12 →
    (r.params.length ≠ 2 → exec (.strike p) s = .next (s.refuses p r .malformed).settle) ∧
    ∀ hi lo : Byte, r.params = [hi, lo] →
    (s.entry? (hi ++ lo) = none →
      exec (.strike p) s = .next (s.afterJudging p r
        [(decide (s.roleOf p ≠ .geometry), .noRight), (decide (s.freeze.state = .frozen), .frozen), (true, .unknownEntry)]
        s)) ∧
    ∀ e, s.entry? (hi ++ lo) = some e →
      let left : State := { s.unqueues p with list := { s.list with
        entries := s.list.entries.eraseP fun f => f.seq = hi ++ lo, departed := s.list.departed + 1 } }
      exec (.strike p) s = .next (s.afterJudging p r
        [(decide (s.roleOf p ≠ .geometry), .noRight), (decide (s.freeze.state = .frozen), .frozen),
         (decide (∃ x ∈ Lane.all, (e.lanes.get x).status ≠ .unclaimed ∨ (e.lanes.get x).squeezes ≠ 0), .wrongState),
         (decide (s.hold.named? = some (hi ++ lo)), .wrongState)]
        (((left.takeRecord (e.passage .struck)).raise .entryDeparted).retire.answers p r .accepted [hi, lo]))

/-- TAKE PASSAGES removes the oldest records and carries them. FLUSH empties the list, counts the entries as flushed
and clears the pending gap. -/
def Obligations.TakePassagesAndFlushRemove : Prop :=
  (∀ (p : Port) (r : Request) (s : State), s.hands p r 0x13 →
    (r.params.length ≠ 1 → exec (.takePassages p) s = .next (s.refuses p r .malformed).settle) ∧
    ∀ b : Byte, r.params = [b] →
    let n := min b.toNat s.passages.records.length
    exec (.takePassages p) s = .next (s.afterJudging p r
      [(decide (b.toNat < 1 ∨ 4 < b.toNat), .malformed), (decide (s.roleOf p ≠ .geometry), .noRight)]
      (({ s.unqueues p with passages := { s.passages with
          records := s.passages.records.drop n, taken := s.passages.taken + BitVec.ofNat 32 n } } : State).answers p r
        .accepted
        (BitVec.ofNat 8 (s.passages.records.length - n) :: (Operands.carry4 s.passages.discarded
          ++ BitVec.ofNat 8 n :: (s.passages.records.take n).flatMap PassageRecord.carried))))) ∧
  (∀ (p : Port) (r : Request) (s : State), s.hands p r 0x36 →
    (r.params ≠ [] → exec (.flush p) s = .next (s.refuses p r .malformed).settle) ∧
    (r.params = [] →
    exec (.flush p) s = .next (s.afterJudging p r
      [(!(s.portRole p).setup, .noRight), (decide ((s.ports.get p).keyCount = 0), .protectedRequest),
       (!s.quiescent, .notQuiescent)]
      (({ s.unqueues p with list := { s.list with
          entries := [], flushed := s.list.flushed + BitVec.ofNat 32 s.list.entries.length, pendingGap := false } } :
        State).answers p r .accepted [BitVec.ofNat 8 s.list.entries.length]))))

/-! ### Tine-depth lines and lanes (R70 to R92) -/

/-- An assertion, once the line has held its level for the debounce time, is taken according to the lane state
(R74): nothing in OFF, a fault and a freeze cause in IDLE and ORPHANED and without a permit, a descent in CLAIMED
with the permit and squeezes done below 3, an overcount at 3, and a second fault in FAULT. Before that time the row
changes nothing, as CommandsWaitTheirTurn states (log 4). -/
def Obligations.AssertionByLaneState : Prop :=
  ∀ (x : Lane) (s : State) (ms : Nat),
    s.inReset = false → (s.lane x).debounce = some ms → s.live.tdnDebounce ≤ ms →
    s.tdnLineActive x = true → (s.lane x).tdnActive = false →
    let seen : State :=
      { s with lanes := s.lanes.modify x fun l => { l with tdnActive := true, debounce := none } }
    let descent (named : Option SeqNo) : State :=
      (seen.faultLane x .unpermittedDescent (s.lane x).state.code).handCause .unpermittedDescent (.lane x) named
    ((s.lane x).state = .off → exec (.assertion x) s = .next seen.settle) ∧
    ((s.lane x).state = .idle → exec (.assertion x) s = .next (descent none).settle) ∧
    (∀ q, (s.lane x).state = .orphaned q → exec (.assertion x) s = .next (descent (some q)).settle) ∧
    (∀ q, (s.lane x).state = .claimed q → s.permit x = false →
      exec (.assertion x) s = .next (descent (some q)).settle) ∧
    (∀ q, (s.lane x).state = .claimed q → s.permit x = true → s.squeezesDone q x < 3 →
      exec (.assertion x) s = .next
        ({ seen with lanes := seen.lanes.modify x fun l => { l with state := .down q 0 } } : State).settle) ∧
    (∀ q, (s.lane x).state = .claimed q → s.permit x = true → s.squeezesDone q x = 3 →
      exec (.assertion x) s = .next (seen.faultLane x .squeezeOvercount 3).settle) ∧
    ((s.lane x).state = .fault →
      exec (.assertion x) s = .next
        (({ seen with lanes := seen.lanes.modify x fun l =>
            { l with fault := l.fault.map fun f => { f with secondFaults := min (f.secondFaults + 1) 15 } } } :
          State).handCause .unpermittedDescent (.lane x) none).settle)

/-- A change of a TDN line starts the debounce measure where the line then differs from the debounced level, and
drops it where it does not. A line already at the level changes nothing (the model's choice, log 2). A release, once
the line has held its level for the debounce time, is taken according to the lane state (R75): in DOWN and ORPHANED
the squeeze is counted on the entry and on the lane, DOWN returning to CLAIMED; elsewhere only the debounced level
changes. Before that time the row changes nothing, as CommandsWaitTheirTurn states (log 4). -/
def Obligations.TdnLineAndReleaseAreTaken : Prop :=
  (∀ (x : Lane) (level : Level) (s : State),
    (s.pins.tdn.get x = level → exec (.tdnLineChange x level) s = .next s) ∧
    (s.pins.tdn.get x ≠ level → s.inReset = false →
      exec (.tdnLineChange x level) s = .next
        ({ s with
          pins := { s.pins with tdn := s.pins.tdn.set x level }
          lanes := s.lanes.modify x fun l =>
            { l with debounce :=
                if Level.isActive (s.live.tdnPolarity.get x) level = l.tdnActive then none
                else some (l.debounce.getD 0) } } : State).settle)) ∧
  (∀ (x : Lane) (s : State) (ms : Nat),
    s.inReset = false → (s.lane x).debounce = some ms → s.live.tdnDebounce ≤ ms →
    s.tdnLineActive x = false → (s.lane x).tdnActive = true →
    let counted (q : SeqNo) (e : Entry) : Entry :=
      if e.seq = q then { e with lanes := e.lanes.modify x fun r => { r with squeezes := r.squeezes + 1 } } else e
    exec (.release x) s = .next (match (s.lane x).state with
      | .down q _ =>
        ({ s with
          list := { s.list with entries := s.list.entries.map (counted q) }
          lanes := s.lanes.modify x fun l =>
            { l with tdnActive := false, debounce := none, squeezes := l.squeezes + 1, state := .claimed q } } : State)
      | .orphaned q =>
        { s with
          list := { s.list with entries := s.list.entries.map (counted q) }
          lanes := s.lanes.modify x fun l =>
            { l with tdnActive := false, debounce := none, squeezes := l.squeezes + 1 } }
      | _ => { s with lanes := s.lanes.modify x fun l => { l with tdnActive := false, debounce := none } }).settle)

/-- A lane fault writes its record with no second fault, enters FAULT, turns the named entry's status to FAILED and
retries retirement with the events of that retry, raises LANE_FAULT, and ends a grant that stands, with MOVE_ENDED and
not otherwise; nothing else changes (R83, R117). A down timer
that has reached the down limit faults its lane with DOWN_TOO_LONG, and freezes nothing (R76); the detail is the
time spent down. Before that the row changes nothing, as CommandsWaitTheirTurn states (log 4). -/
def Obligations.LaneFaultEndsTheClaim : Prop :=
  (∀ (s : State) (x : Lane) (cause : LaneFaultCause) (detail : Nat),
    let t := s.faultLane x cause detail
    let failed : State :=
      match (s.lane x).state.named? with
      | none => s
      | some q =>
        ({ s with list := { s.list with entries := s.list.entries.map fun e =>
            if e.seq = q then { e with lanes := e.lanes.modify x fun r => { r with status := .failed } } else e } } :
          State).retire
    t.lanes = s.lanes.modify x (fun l =>
      { l with state := .fault, fault := some ⟨cause, l.state.named?, s.axis.axis, detail, 0⟩ }) ∧
    t.list = failed.list ∧ t.passages = failed.passages ∧
    t.motion = (if s.motion.state.isGranted then ⟨.halt, s.axis.axis⟩ else s.motion) ∧
    (∀ p, t.hasLatched p (.laneFault x) ↔
      s.hasLatched p (.laneFault x) ∨ Event.targets (.laneFault x) p (s.portRole p) = true) ∧
    (∀ p, t.hasLatched p .moveEnded ↔ s.hasLatched p .moveEnded ∨
      (s.motion.state.isGranted = true ∧ Event.moveEnded.targets p (s.portRole p) = true)) ∧
    (∀ p, ∀ e ∈ [Event.entryDeparted, .passageOverflow, .straggler], (t.hasLatched p e ↔ failed.hasLatched p e)) ∧
    s.raisesOnly t [.laneFault x, .moveEnded, .entryDeparted, .passageOverflow, .straggler] ∧
    t = { s with events := t.events, lanes := t.lanes, list := t.list, passages := t.passages, motion := t.motion }) ∧
  (∀ (x : Lane) (s : State) (q : SeqNo) (ms : Nat), s.inReset = false → (s.lane x).state = .down q ms →
    s.live.downLimit ≤ ms →
    ∃ t, exec (.downTimerExpiry x) s = .next t ∧
      t = (s.faultLane x .downTooLong ms).settle ∧ t.freeze = s.freeze)

/-- CLAIM is judged by the checks of R77, the lowest refusal reported, and when accepted names the entry and marks it
CLAIMED (R78). -/
def Obligations.ClaimNamesTheEntry : Prop :=
  ∀ (p : Port) (r : Request) (s : State) (hi lo mask : Byte) (x : Lane),
    s.hands p r 0x20 → r.params = [hi, lo, mask] → s.roleOf p = .unit x →
    let q : SeqNo := hi ++ lo
    (s.entry? q = none →
      exec (.claim p) s = .next (s.afterJudging p r
        [(decide (16 ≤ mask.toNat), .malformed), (decide (s.freeze.state = .frozen), .frozen), (true, .unknownEntry)]
        s)) ∧
    ∀ e, s.entry? q = some e →
      let l := e.lanes.get x
      exec (.claim p) s = .next (s.afterJudging p r
        [(decide (16 ≤ mask.toNat), .malformed), (decide (s.freeze.state = .frozen), .frozen),
         (decide ((s.lane x).state ≠ .idle), .wrongState), (decide (l.status ≠ .unclaimed), .wrongState),
         (decide (l.need = 0), .wrongState), (s.motion.state.isGranted, .moving),
         (decide (s.live.claimWindow < (e.position - (s.axis.axis + s.live.laneOffset.get x)).natAbs), .outOfWindow),
         (decide (∃ i : Fin 4, l.mask.getLsbD i = true ∧ mask.getLsbD i = false), .obstacle)]
        ((((s.unqueues p).setStatus q x .claimed).setLane x (.claimed q)).answers p r .accepted
          ([hi, lo, BitVec.ofNat 8 l.need, BitVec.ofNat 8 l.mask.toNat, BitVec.ofNat 8 l.squeezes,
              BitVec.ofNat 8 e.kind.code, BitVec.ofNat 8 s.hold.code] ++ Operands.carrySeq? s.hold.named?)))

/-- FINISH ends the lane's claim as WORKED once its squeezes meet the need, and retries retirement (R79). WAIVE ends
a claim on the seq given as WAIVED and retries retirement, or marks an OPEN status WAIVED for an IDLE lane with no
retry (R80). -/
def Obligations.FinishAndWaiveEndTheClaim : Prop :=
  (∀ (p : Port) (r : Request) (s : State) (x : Lane), s.hands p r 0x21 → r.params = [] → s.roleOf p = .unit x →
    (∀ q e, (s.lane x).state = .claimed q → s.entry? q = some e →
      exec (.finish p) s = .next
        (if (e.lanes.get x).squeezes < (e.lanes.get x).need then (s.refuses p r .shortWork).settle
        else ((((s.unqueues p).setStatus q x .worked).setLane x .idle).retire.answers p r .accepted
          (Operands.carry2 q ++ [BitVec.ofNat 8 (e.lanes.get x).squeezes])).settle)) ∧
    (∀ q ms, (s.lane x).state = .down q ms → exec (.finish p) s = .next (s.refuses p r .lanesDown).settle) ∧
    ((s.lane x).state = .off ∨ (s.lane x).state = .idle ∨ (s.lane x).state = .fault ∨
        (∃ q, (s.lane x).state = .orphaned q) →
      exec (.finish p) s = .next (s.refuses p r .wrongState).settle)) ∧
  (∀ (p : Port) (r : Request) (s : State) (hi lo : Byte) (x : Lane),
    s.hands p r 0x22 → r.params = [hi, lo] → s.roleOf p = .unit x →
    let q : SeqNo := hi ++ lo
    (s.entry? q = none → exec (.waive p) s = .next (s.refuses p r .unknownEntry).settle) ∧
    ∀ e, s.entry? q = some e →
      exec (.waive p) s = .next (match (s.lane x).state with
        | .claimed c =>
          if c = q then (((s.unqueues p).setStatus q x .waived).setLane x .idle).retire.answers p r .accepted [hi, lo]
          else s.refuses p r .wrongState
        | .idle =>
          if (e.lanes.get x).status = LaneStatus.unclaimed then ((s.unqueues p).setStatus q x .waived).answers p r .accepted [hi, lo]
          else s.refuses p r .wrongState
        | .down _ _ => s.refuses p r .lanesDown
        | _ => s.refuses p r .wrongState).settle)

/-- ADOPT returns an ORPHANED lane with its tines up to CLAIMED on the same seq (R81). CLEAR LANE returns a lane in
FAULT or ORPHANED with its tines up to IDLE; from ORPHANED the entry becomes OPEN for it and retirement is retried
(R82). -/
def Obligations.AdoptAndClearLaneComeBack : Prop :=
  (∀ (p : Port) (r : Request) (s : State) (x : Lane), s.hands p r 0x23 → r.params = [] → s.roleOf p = .unit x →
    (∀ q e, (s.lane x).state = .orphaned q → s.entry? q = some e →
      exec (.adopt p) s = .next
        (if (s.lane x).tdnActive then (s.refuses p r .lanesDown).settle
        else (((s.unqueues p).setLane x (.claimed q)).answers p r .accepted (s.claimData x e)).settle)) ∧
    ((∀ q, (s.lane x).state ≠ .orphaned q) → exec (.adopt p) s = .next (s.refuses p r .wrongState).settle)) ∧
  (∀ (p : Port) (r : Request) (s : State) (b : Byte) (x : Lane),
    s.hands p r 0x24 → r.params = [b] → b.toNat = Lane.code x →
    let cleared : State :=
      match (s.lane x).state with
      | .orphaned q => (((s.unqueues p).setStatus q x .unclaimed).setLane x .idle).retire
      | _ => (s.unqueues p).setLane x .idle
    let clearable : Prop := (s.lane x).state = .fault ∨ ∃ q, (s.lane x).state = .orphaned q
    let barred : Prop := s.roleOf p ≠ .unit x ∧ (s.portRole p).setup = false
    (barred → exec (.clearLane p) s = .next (s.refuses p r .noRight).settle) ∧
    (¬ barred → ¬ clearable → exec (.clearLane p) s = .next (s.refuses p r .wrongState).settle) ∧
    (¬ barred → clearable → (s.lane x).tdnActive = true →
      exec (.clearLane p) s = .next (s.refuses p r .lanesDown).settle) ∧
    (¬ barred → clearable → (s.lane x).tdnActive = false →
      exec (.clearLane p) s = .next (cleared.answers p r .accepted [b, BitVec.ofNat 8 (s.lane x).state.code]).settle))

/-! ### The lift hold (R94 to R104) -/

/-- HOLD TAKE is judged by the checks of R96, the lowest refusal reported, and when accepted copies the lift target,
raises the needs of a deep lift (R98) and starts the lift timer (R97). The deep-lift byte is yes wherever the
deep-lift rule applies, also where it raises no need (the model's reading, log 12). -/
def Obligations.HoldTakeStandsTheHold : Prop :=
  ∀ (p : Port) (r : Request) (s : State) (hi lo : Byte), s.hands p r 0x14 → r.params = [hi, lo] →
    let q : SeqNo := hi ++ lo
    (s.entry? q = none →
      exec (.holdTake p) s = .next (s.afterJudging p r
        [(decide (s.roleOf p ≠ .geometry), .noRight), (decide (s.freeze.state = .frozen), .frozen), (true, .unknownEntry)]
        s)) ∧
    ∀ e, s.entry? q = some e →
      let t := e.target.getD ⟨0, 0, 0⟩
      let deep : Bool := decide (s.live.deepLift ≠ 0 ∧ (s.live.deepLift ≤ t.left ∨ s.live.deepLift ≤ t.right))
      let raised (l : LaneRecord) : Bool :=
        deep && decide (l.need = 1 ∧ (l.status = LaneStatus.unclaimed ∨ l.status = .claimed))
      let raise (l : LaneRecord) : LaneRecord := if raised l then { l with need := 2 } else l
      let entries := s.list.entries.map fun f => if f.seq = q then { f with lanes := f.lanes.map raise } else f
      exec (.holdTake p) s = .next (s.afterJudging p r
        [(decide (s.roleOf p ≠ .geometry), .noRight), (decide (s.freeze.state = .frozen), .frozen),
         (decide (s.hold ≠ .free), .wrongState), (decide (e.kind = .omitted), .wrongState),
         (decide (¬ ∃ x ∈ Lane.all, s.isFitted x = true ∧ 0 < (e.lanes.get x).need ∧
            ((e.lanes.get x).status = .unclaimed ∨ (e.lanes.get x).status = .claimed)), .wrongState),
         (s.motion.state.isGranted, .moving),
         (decide (s.live.holdWindow < (e.position - s.axis.axis).natAbs), .outOfWindow), (e.target.isNone, .noTarget)]
        (({ s.unqueues p with list := { s.list with entries := entries }, hold := .lifting q t 0 } : State).answers p r
          .accepted
          ([hi, lo] ++ t.carried ++ [if deep then 1 else 0]
            ++ (Lane.all.map fun x => BitVec.ofNat 8 (raise (e.lanes.get x)).need)
            ++ [BitVec.ofNat 8 (Operands.laneSet (e.lanes.map raised))])))

/-- HOLD DROP is judged by the checks of R102, and when accepted first, with FORCE, revokes the claims on the held seq, A
to D, and then opens the hold (R103). -/
def Obligations.HoldDropOpens : Prop :=
  ∀ (p : Port) (r : Request) (s : State) (b : Byte), s.hands p r 0x16 → r.params = [b] →
    let on (q : SeqNo) (x : Lane) : Bool :=
      decide ((s.lane x).state = .claimed q ∨ (s.lane x).state = .orphaned q)
    let down (q : SeqNo) (x : Lane) : Bool :=
      match (s.lane x).state with
      | .down c _ => c = q
      | .orphaned c => c = q && (s.lane x).tdnActive
      | .fault => s.isFitted x && (s.lane x).tdnActive
      | _ => false
    let revoked (q : SeqNo) (x : Lane) (t : State) : State :=
      if b = 1 ∧ on q x then (((t.setStatus q x LaneStatus.unclaimed).setLane x .idle).retire).raise (.claimRevoked x) else t
    (1 < b.toNat → exec (.holdDrop p) s = .next (s.refuses p r .malformed).settle) ∧
    (b.toNat ≤ 1 → s.roleOf p ≠ .geometry → exec (.holdDrop p) s = .next (s.refuses p r .noRight).settle) ∧
    (b.toNat ≤ 1 → s.roleOf p = .geometry → (s.hold = .free ∨ ∃ q t, s.hold = .opening q t) →
      exec (.holdDrop p) s = .next (s.refuses p r .wrongState).settle) ∧
    ∀ q t, b.toNat ≤ 1 → s.roleOf p = .geometry →
      ((∃ ms, s.hold = .lifting q t ms) ∨ ∃ ms, s.hold = .held q t ms) →
      let after := revoked q .d (revoked q .c (revoked q .b (revoked q .a (s.unqueues p))))
      exec (.holdDrop p) s = .next (s.afterJudging p r
        [(Lane.all.any (down q), .lanesDown), (decide (b = 0) && Lane.all.any (on q), .claimsOpen)]
        (({ after with hold := .opening q t } : State).answers p r .accepted
          (Operands.carry2 q
            ++ [BitVec.ofNat 8 (Operands.laneSet (.ofFn fun x => decide (b = 1) && on q x))])))

/-- HOLD SET ends LIFTING in HELD with the overdue timer from 0 and raises HOLD_HELD (R100). HOLD CLEAR frees an
OPENING hold, raises HOLD_FREE and retries retirement (R104). -/
def Obligations.HoldSetAndClearAreTaken : Prop :=
  (∀ (p : Port) (r : Request) (s : State), s.hands p r 0x15 →
    (r.params ≠ [] → exec (.holdSet p) s = .next (s.refuses p r .malformed).settle) ∧
    (r.params = [] → s.roleOf p ≠ .geometry → exec (.holdSet p) s = .next (s.refuses p r .noRight).settle) ∧
    (r.params = [] → s.roleOf p = .geometry → (∀ q t ms, s.hold ≠ .lifting q t ms) →
      exec (.holdSet p) s = .next (s.refuses p r .wrongState).settle) ∧
    ∀ q t ms, r.params = [] → s.roleOf p = .geometry → s.hold = .lifting q t ms →
      exec (.holdSet p) s = .next
        ((({ s.unqueues p with hold := .held q t (some 0) } : State).raise .holdHeld).answers p r .accepted
          (Operands.carry2 q ++ t.carried)).settle) ∧
  (∀ (p : Port) (r : Request) (s : State), s.hands p r 0x17 →
    (r.params ≠ [] → exec (.holdClear p) s = .next (s.refuses p r .malformed).settle) ∧
    (r.params = [] → s.roleOf p ≠ .geometry → exec (.holdClear p) s = .next (s.refuses p r .noRight).settle) ∧
    (r.params = [] → s.roleOf p = .geometry → (∀ q t, s.hold ≠ .opening q t) →
      exec (.holdClear p) s = .next (s.refuses p r .wrongState).settle) ∧
    ∀ q t, r.params = [] → s.roleOf p = .geometry → s.hold = .opening q t →
      exec (.holdClear p) s = .next
        ((({ s.unqueues p with hold := .free } : State).raise .holdFree).retire.answers p r .accepted
          (Operands.carry2 q)).settle)

/-- The lift timer that has reached the lift timeout opens the hold and raises LIFT_TIMEOUT (R99); the overdue timer
that has reached the hold overdue marks the held entry, stops, and raises HOLD_OVERDUE (R101). Before that the rows
change nothing, as CommandsWaitTheirTurn states (log 4). -/
def Obligations.HoldTimersExpire : Prop :=
  ∀ (s : State) (q : SeqNo) (t : LiftTarget) (ms : Nat), s.inReset = false →
    (s.hold = .lifting q t ms → s.live.liftTimeout ≤ ms →
      exec .liftTimerExpiry s = .next (({ s with hold := .opening q t } : State).raise .liftTimeout).settle) ∧
    (s.hold = .held q t (some ms) → s.live.holdOverdue ≤ ms →
      exec .overdueTimerExpiry s = .next
        (({ s with
          hold := .held q t none
          list := { s.list with
            entries := s.list.entries.map fun e => if e.seq = q then { e with overdue := true } else e } } :
          State).raise .holdOverdue).settle)

/-! ### Motion (R113 to R115) -/

/-- MOVE is judged by the checks of R113, and when accepted grants the distance from the axis as it stands (R114).
STOP halts a grant at the axis as it stands, changes nothing in HALT, and reports the state before and the halt
point (R115). -/
def Obligations.MoveAndStopAreTaken : Prop :=
  (∀ (p : Port) (r : Request) (s : State), s.hands p r 0x28 →
    (r.params.length ≠ 2 → exec (.move p) s = .next (s.refuses p r .malformed).settle) ∧
    ∀ hi lo : Byte, r.params = [hi, lo] →
    let d := (hi ++ lo : BitVec 16).toNat
    let has (f : LaneController → Prop) : Prop := ∃ x, s.isFitted x = true ∧ f (s.lane x)
    ∃ faulted down claimed : Bool,
      (faulted = true ↔ has fun l => l.state = .fault) ∧
      (down = true ↔ has fun l => l.state.isDown = true ∨ l.tdnActive = true) ∧
      (claimed = true ↔ has fun l => (∃ q, l.state = .claimed q) ∨ ∃ q, l.state = .orphaned q) ∧
      exec (.move p) s = .next (s.afterJudging p r
        [(decide (d < 1 ∨ 20000 < d), .malformed), (decide (s.roleOf p ≠ .travel), .noRight),
         (decide (s.freeze.state = .frozen), .frozen), (decide (s.hold ≠ .free), .wrongState), (faulted, .wrongState),
         (down, .lanesDown), (claimed, .claimsOpen)]
        (({ s.unqueues p with motion := ⟨.granted s.axis.axis d, s.motion.haltPoint⟩ } : State).answers p r .accepted
          (Operands.carryAxis s.axis.axis ++ [hi, lo, BitVec.ofNat 8 s.motion.state.code])))) ∧
  (∀ (p : Port) (r : Request) (s : State), s.hands p r 0x29 →
    (r.params ≠ [] → exec (.stop p) s = .next (s.refuses p r .malformed).settle) ∧
    (r.params = [] → s.roleOf p ≠ .travel → exec (.stop p) s = .next (s.refuses p r .noRight).settle) ∧
    (r.params = [] → s.roleOf p = .travel → s.motion.state = .halt →
      exec (.stop p) s = .next
        ((s.unqueues p).answers p r .accepted (0 :: Operands.carryAxis s.motion.haltPoint)).settle) ∧
    ∀ start d, r.params = [] → s.roleOf p = .travel → s.motion.state = .granted start d →
      exec (.stop p) s = .next
        (({ s.unqueues p with motion := ⟨.halt, s.axis.axis⟩ } : State).answers p r .accepted
          (1 :: Operands.carryAxis s.axis.axis)).settle)

/-! ### Freeze and thaw (R123 to R130) -/

/-- A cause taken in RUN writes the record, enters FROZEN, halts at the axis and raises FROZEN; a cause taken in
FROZEN is a further cause and changes only the two items of the record (R117, R125, R126). FRZIN going active hands
LINE once; its release, and a line that does not change, hand nothing (R127; for the unchanged line the model's
choice, log 2). -/
def Obligations.CausesFreezeOrAreCounted : Prop :=
  (∀ (s : State) (cause : FreezeCause) (source : FreezeSource) (seq : Option SeqNo),
    (s.freeze.state = .run → s.handCause cause source seq =
      ({ s with
        freeze := ⟨.frozen, cause, source, s.axis.axis, seq, 0, none⟩
        motion := ⟨.halt, s.axis.axis⟩ } : State).raise .frozen) ∧
    (s.freeze.state = .frozen → s.handCause cause source seq =
      { s with freeze := { s.freeze with further := min (s.freeze.further + 1) 15, lastFurther := some cause } })) ∧
  (∀ s : State, s.inReset = false →
    (s.pins.frzin = .high → exec .frzinAssertion s = .next
      ((({ s with pins := { s.pins with frzin := .low } } : State).handCause .line .frzin none).settle)) ∧
    (s.pins.frzin = .low → exec .frzinAssertion s = .next s) ∧
    exec .frzinRelease s = .next { s with pins := { s.pins with frzin := .high } })

/-- FREEZE with the key 0x3C from a port with the FREEZE right hands REQUEST (R128). -/
def Obligations.FreezeRequestHandsRequest : Prop :=
  ∀ (p : Port) (r : Request) (s : State), s.hands p r 0x0C →
    (r.params.length ≠ 1 → exec (.freeze p) s = .next (s.refuses p r .malformed).settle) ∧
    ∀ key, r.params = [key] →
      ((s.portRole p).freeze = false → exec (.freeze p) s = .next (s.refuses p r .noRight).settle) ∧
      ((s.portRole p).freeze = true → key ≠ 0x3C → exec (.freeze p) s = .next (s.refuses p r .badKey).settle) ∧
      ((s.portRole p).freeze = true → key = 0x3C →
        let t := (s.unqueues p).handCause .request (.port p) none
        exec (.freeze p) s = .next
          (t.answers p r .accepted
            [BitVec.ofNat 8 s.freeze.state.code, BitVec.ofNat 8 t.freeze.cause.code]).settle)

/-- THAW is judged by the checks of R129, and when accepted revokes the claim of each fitted lane CLAIMED or ORPHANED
while still FROZEN, then enters RUN with the record kept and raises THAWED (R130). The check of presence takes in
the sending port, where R129 also says that the sender always passes (the model's choice, log 28), and the claims
are revoked from lane A to lane D, where R130 gives no order (the model's choice, log 29). -/
def Obligations.ThawRevokesAndRuns : Prop :=
  ∀ (p : Port) (r : Request) (s : State), s.hands p r 0x32 →
    (r.params ≠ [] → exec (.thaw p) s = .next (s.refuses p r .malformed).settle) ∧
    (r.params = [] →
    let needed : Role → Bool
      | .geometry => true
      | .unit _ => true
      | .travel => true
      | _ => false
    let claim (x : Lane) : Option SeqNo :=
      if s.isFitted x then
        match (s.lane x).state with
        | .claimed q => some q
        | .orphaned q => some q
        | _ => none
      else none
    let revoked (x : Lane) (t : State) : State :=
      match claim x with
      | some q => (((t.setStatus q x LaneStatus.unclaimed).setLane x .idle).retire).raise (.claimRevoked x)
      | none => t
    let after := revoked .d (revoked .c (revoked .b (revoked .a (s.unqueues p))))
    exec (.thaw p) s = .next (s.afterJudging p r
      [(!(s.portRole p).setup, .noRight), (decide ((s.ports.get p).keyCount = 0), .protectedRequest),
       (decide (s.freeze.state = .run), .wrongState), (decide (s.pins.frzin = .low), .conditions),
       (Lane.all.any fun x => s.isFitted x && (s.lane x).tdnActive, .conditions),
       (Lane.all.any fun x => (s.lane x).state.isDown, .conditions),
       (Port.all.any fun i => needed (s.roleOf i) && !s.portPresent i, .conditions)]
      ((({ after with freeze := { s.freeze with state := .run } } : State).raise .thawed).answers p r .accepted
        [BitVec.ofNat 8 (Operands.laneSet (.ofFn fun x => (claim x).isSome)), BitVec.ofNat 8 s.freeze.cause.code,
         BitVec.ofNat 8 s.freeze.further])))

/-! ### Settings, store and resets (R140, R154 to R160) -/

/-- The refusal reported is the lowest-numbered among the checks that fail, and there is none where no check fails.
A request with the wrong number of parameter bytes for its code, and a request of an unknown code, is refused
MALFORMED and changes nothing but its port's queue, key window and response. The response's code byte is the
request's code plus 0x80 in one byte, which for an unknown code of 0x80 or more wraps (the model's reading, log 10).
ANNOTATE with a kind or a selector outside its set, SET ROLES with a role or rights outside their sets, and CLEAR
LANE with a letter other than A to D are refused MALFORMED. The claim protocol is open to UNIT ports alone: CLAIM,
FINISH, WAIVE and ADOPT from another port are refused NO_RIGHT, or MALFORMED where CLAIM's mask is outside its set. (Where a candidate waits for an AXIS PRESET, that request also offers it, which
EdgesMakeCandidates states; so no candidate waits there.) -/
def Obligations.PortInterfaceRefuses : Prop :=
  (∀ checks : List (Bool × Result),
    (Operands.lowestRefusal checks = none ↔ ∀ c ∈ checks, c.1 = false) ∧
    ∀ r, Operands.lowestRefusal checks = some r →
      (true, r) ∈ checks ∧ ∀ r', (true, r') ∈ checks → r.code ≤ r'.code) ∧
  ((∀ (c : Instr) (p : Port) (r : Request) (s : State) (n : Nat),
    s.hands p r r.code → Request.command? p r.code = some c → Request.length? r.code = some n → r.params.length ≠ n →
    (c = .axisPreset p → s.detector.made = none) →
    exec c s = .next (s.refuses p r .malformed).settle) ∧
  ∀ (p : Port) (r : Request) (s : State),
    s.hands p r r.code → Request.length? r.code = none →
    exec (.unknownCode p) s = .next (s.refuses p r .malformed).settle) ∧
  (∀ (p : Port) (r : Request) (s : State),
    (s.hands p r 0x10 → 2 < (r.params.getD 2 0).toNat ∨ 2 < (r.params.getD 11 0).toNat →
      exec (.annotate p) s = .next (s.refuses p r .malformed).settle) ∧
    (∀ i : Fin 6, s.hands p r 0x31 →
      7 < (r.params.getD (2 * i) 0).toNat ∨ 7 < (r.params.getD (2 * i + 1) 0).toNat →
      exec (.setRoles p) s = .next (s.refuses p r .malformed).settle) ∧
    (s.hands p r 0x24 → 3 < (r.params.getD 0 0).toNat → exec (.clearLane p) s = .next (s.refuses p r .malformed).settle)) ∧
  (∀ (p : Port) (r : Request) (s : State), (∀ x, s.roleOf p ≠ .unit x) →
    (∀ hi lo mask : Byte, s.hands p r 0x20 → r.params = [hi, lo, mask] →
      exec (.claim p) s = .next (s.refuses p r (if mask.toNat < 16 then .noRight else .malformed)).settle) ∧
    (s.hands p r 0x21 → r.params = [] → exec (.finish p) s = .next (s.refuses p r .noRight).settle) ∧
    (∀ hi lo : Byte, s.hands p r 0x22 → r.params = [hi, lo] →
      exec (.waive p) s = .next (s.refuses p r .noRight).settle) ∧
    (s.hands p r 0x23 → r.params = [] → exec (.adopt p) s = .next (s.refuses p r .noRight).settle))

/-- SET is judged by the checks of R155, and when accepted writes the legalised value and lets it take effect, ADJUSTED
where the value taken differs from the value written or the bound of R30 changed the other setting. -/
def Obligations.SetWritesTheValueTaken : Prop :=
  ∀ (p : Port) (r : Request) (s : State) (n b3 b2 b1 b0 : Byte), s.hands p r 0x30 → r.params = [n, b3, b2, b1, b0] →
    let v : Int := Operands.signed4 b3 b2 b1 b0
    (n.toNat = 0 ∨ 36 < n.toNat → exec (.set p) s = .next (s.refuses p r .malformed).settle) ∧
    ∀ k : Setting, k.number = n.toNat →
      let new := s.live.write k v
      let bound : Prop := (k = .minimumSpacing ∧ new.captureWindow ≠ s.live.captureWindow) ∨
        (k = .widthMin ∧ new.widthMax ≠ s.live.widthMax)
      ∃ adjusted : Bool, (adjusted = true ↔ new.get k ≠ v ∨ bound) ∧
        exec (.set p) s = .next (s.afterJudging p r
          [(!(s.portRole p).setup, .noRight),
           (k.isProtected && decide ((s.ports.get p).keyCount = 0), .protectedRequest),
           (k.isProtected && !s.quiescent, .notQuiescent)]
          (((s.unqueues p).writeSettings new).answers p r (if adjusted then .adjusted else .accepted)
            (n :: Operands.carryAxis (new.get k))))

/-- A number written outside its range is taken as the nearer bound and then rounded down to its step, a default
status interval of 1 to 19 as 20, and an enumerated value outside its set leaves the setting (R155); the bounds of
R30 hold the capture window and width max, also when the other setting of the pair is written. A write changes no
other setting, keeps legal settings legal, and takes a legal value within the bounds as written. The numbers,
ranges, steps and protected settings are those of R154. -/
def Obligations.WritesAreLegalised : Prop :=
  (∀ (s : Settings) (k : Setting) (v : Int), s.legal →
    (s.write k v).legal ∧
    (∀ j, j ≠ k → (k = .minimumSpacing → j ≠ .captureWindow) → (k = .widthMin → j ≠ .widthMax) →
      (s.write k v).get j = s.get j) ∧
    (s.write k v).roles = s.roles ∧
    (k.domain.holds v → (k = .captureWindow → v ≤ s.minimumSpacing / 2 - 1) → (k = .widthMax → s.widthMin ≤ v) →
      (s.write k v).get k = v) ∧
    (∀ lo hi step : Int, k.domain = .range lo hi step → k ≠ .captureWindow → k ≠ .widthMax →
      (v < lo → (s.write k v).get k = lo) ∧ (hi < v → (s.write k v).get k = hi) ∧
      (lo ≤ v → v ≤ hi → (s.write k v).get k = v - v % step)) ∧
    (k = .captureWindow → (s.write k v).captureWindow = min (max 20 (min 200 v)) (s.minimumSpacing / 2 - 1)) ∧
    (k = .widthMax → (s.write k v).widthMax = max (max 120 (min 600 v)) s.widthMin) ∧
    (k = .minimumSpacing →
      (s.write k v).captureWindow = min s.captureWindow ((s.write k v).minimumSpacing / 2 - 1)) ∧
    (k = .widthMin → (s.write k v).widthMax = max s.widthMax (s.write k v).widthMin) ∧
    (k = .defaultStatusInterval →
      (v ≤ 0 → (s.write k v).defaultStatusInterval = 0) ∧ (0 < v → v < 20 → (s.write k v).defaultStatusInterval = 20) ∧
      (20 ≤ v → v ≤ 2550 → (s.write k v).defaultStatusInterval = v - v % 10) ∧
      (2550 < v → (s.write k v).defaultStatusInterval = 2550)) ∧
    ∀ codes : List Int, k.domain = .codes codes → v ∉ codes → s.write k v = s) ∧
  Setting.all.map Setting.number = List.range' 1 36 ∧
  Setting.all.map Setting.domain =
    [.codes [115200, 230400, 460800, 921600], .range 50 2550 10, .offOrRange 20 2550 10,
      .codes [0, 1, 2, 3, 4, 5, 6, 7, 8, 9, 10, 11, 12, 13, 14, 15],
      .range 0 3 1, .range 0 3 1, .range 0 3 1, .range 0 3 1,
      .range (-500) 500 1, .range (-500) 500 1, .range (-500) 500 1, .range (-500) 500 1,
      .codes [0, 1], .codes [0, 1], .codes [0, 1], .codes [0, 1], .range 1 63 1, .range 0 3 1, .codes [0, 1],
      .range 1000 30000 1, .codes [0, 1, 2], .codes [0, 1], .range 150 400 1, .range 80 400 1, .range 120 600 1,
      .range 20 200 1, .range 300 900 1, .range 10 200 1, .range 10 200 1, .range 800 5000 1, .range 5 100 1,
      .range 500 25500 100, .range 1000 255000 1000, .range 500 10000 100, .range 2 50 1, .range 0 200 1] ∧
  (Setting.all.filter Setting.isProtected).map Setting.number = [4, 9, 10, 11, 12, 17, 18, 19, 20]

/-- What new live settings do at once, whichever of them change together (R155, R158), in the order of the model (its
choice, log 32). A change of the edge mode discards a candidate in flight, and a change of the SDET polarity also takes
the line's level without an edge (R17, R24). A change of a TDN polarity starts or drops the debounce measure (R74; the
drop by the model's reading, log 15). A lane newly fitted enters IDLE and takes an active level as an assertion, lane A
first (the model's choice, log 27), and one no longer fitted enters OFF (R70). A change of a limit makes exactly the
timers of that limit that have reached it expire, in an order that is free (R74, R76, R99, R101, R137; within the write
by the model's reading, log 14). Settings that no rule gives an immediate effect are only written. -/
def Obligations.SettingsTakeEffect : Prop :=
  (∀ (s : State) (new : Settings),
    let senses : State :=
      { s with
        store := { s.store with live := new }
        detector := { s.detector with
          inFlight := if new.edgeMode = s.live.edgeMode ∧ new.sdetPolarity = s.live.sdetPolarity then s.detector.inFlight
            else none
          sdetActive := if new.sdetPolarity = s.live.sdetPolarity then s.detector.sdetActive
            else Level.isActive new.sdetPolarity s.pins.sdet } }
    let measure (x : Lane) : Option Nat :=
      if new.tdnPolarity.get x = s.live.tdnPolarity.get x then (s.lane x).debounce
      else if Level.isActive (new.tdnPolarity.get x) (s.pins.tdn.get x) = (s.lane x).tdnActive then none
      else some ((s.lane x).debounce.getD 0)
    let measures : State := { senses with lanes := .ofFn fun x => { s.lane x with debounce := measure x } }
    let enters (x : Lane) (state : LaneState) (u : State) : State :=
      { u with lanes := u.lanes.modify x fun l => { l with state := state } }
    let fit (x : Lane) (u : State) : State :=
      if s.isFitted x = false ∧ new.lanesFitted.get x = true then
        if (s.lane x).tdnActive then
          ((enters x .idle u).faultLane x .unpermittedDescent 1).handCause .unpermittedDescent (.lane x) none
        else enters x .idle u
      else if s.isFitted x = true ∧ new.lanesFitted.get x = false then enters x .off u
      else u
    let fits : State := fit .d (fit .c (fit .b (fit .a measures)))
    let atOnce (c : Instr) : Prop := fits.timerDue c ∧
      match c with
      | .assertion _ | .release _ => new.tdnDebounce ≠ s.live.tdnDebounce
      | .downTimerExpiry _ => new.downLimit ≠ s.live.downLimit
      | .liftTimerExpiry => new.liftTimeout ≠ s.live.liftTimeout
      | .overdueTimerExpiry => new.holdOverdue ≠ s.live.holdOverdue
      | .presenceTimerExpiry _ => new.presenceInterval ≠ s.live.presenceInterval
      | _ => False
    ∃ order : List Instr, order.Nodup ∧ (∀ c, c ∈ order ↔ atOnce c) ∧
      s.writeSettings new = order.foldl State.runExpiry
        { fits with freeCount := if 2 ≤ order.length then s.freeCount + 1 else s.freeCount }) ∧
  ∀ (s : State) (c : Instr), s.inReset = false → s.timerDue c → (∀ p, c ≠ .statusTimerExpiry p) →
    exec c s = .next (s.runExpiry c).settle

/-- SET ROLES writes all roles and rights together, and nothing else; roles that conflict are refused (R140). -/
def Obligations.SetRolesWritesTheRoles : Prop :=
  ∀ (p : Port) (r : Request) (s : State) (roles : PerPort PortRole), s.hands p r 0x31 →
    r.params = Port.all.flatMap (fun i =>
      [BitVec.ofNat 8 (roles.get i).role.code, BitVec.ofNat 8 (roles.get i).rightsCode]) →
    let held (i j : Port) : Prop := i ≠ j ∧ (roles.get i).role = (roles.get j).role ∧
      (roles.get i).role ≠ .unused ∧ (roles.get i).role ≠ .observer
    ∃ conflict : Bool, (conflict = true ↔ (∃ i j, held i j) ∨ ∀ i, (roles.get i).setup = false) ∧
      exec (.setRoles p) s = .next (s.afterJudging p r
        [(!(s.portRole p).setup, .noRight), (decide ((s.ports.get p).keyCount = 0), .protectedRequest),
         (!s.quiescent, .notQuiescent), (conflict, .roleConflict)]
        (({ s.unqueues p with store := { s.store with live := { s.live with roles := roles } } } : State).answers p r
          .accepted []))

/-- SAVE takes a snapshot and is answered later; RELOAD reads the image and raises its event under the roles just
loaded; RESTART is answered and then waits for its response to be sent. Each is refused STORE_BUSY while a save or a
restart is under way (R157, R158, R160). The write that completes leaves the snapshot in the image, ends the save in
flight and answers the SAVE (R157). -/
def Obligations.SaveReloadRestartAreTaken : Prop :=
  (∀ (p : Port) (r : Request) (s : State), r.params = [] →
    let busy : Bool := s.store.save.isSome || s.restart.isSome
    let keyed : List (Bool × Result) :=
      [(!(s.portRole p).setup, .noRight), (decide ((s.ports.get p).keyCount = 0), .protectedRequest),
       (busy, .storeBusy)]
    (s.hands p r 0x33 →
      exec (.save p) s = .next (s.afterJudging p r keyed
        (({ s.unqueues p with store := { s.store with save := some ⟨p, r.tag, s.live, 0⟩ } } : State).countsKey p))) ∧
    (s.hands p r 0x34 →
      exec (.reload p) s = .next (s.afterJudging p r (keyed ++ [(!s.quiescent, .notQuiescent)])
        ((match s.store.image.judge with
          | .valid => (s.unqueues p).writeSettings s.store.image.settings
          | .blank => ((s.unqueues p).writeSettings Settings.defaults).raise .storeBlank
          | .invalid => ((s.unqueues p).writeSettings Settings.defaults).raise .storeInvalid).answers p r .accepted
          [BitVec.ofNat 8 s.store.image.judge.code]))) ∧
    (s.hands p r 0x35 →
      exec (.restart p) s = .next (s.afterJudging p r (keyed ++ [(!s.quiescent, .notQuiescent)])
        ((({ s.unqueues p with restart := some ⟨p, false⟩ } : State).countsKey p).sends p r .restartResponse
          .accepted [])))) ∧
  (∀ (s : State) (v : SaveInFlight), s.inReset = false → s.store.save = some v →
    exec .saveWriteComplete s = .next
      (({ s with store := { s.store with image := .ofSettings v.snapshot, save := none } } : State).sends v.port
        ⟨v.tag, 0x33, []⟩ .response .accepted []))

/-- The image that SAVE writes is judged valid and gives back the settings it was written from. -/
def Obligations.StoreImageRoundTrip : Prop :=
  ∀ s : Settings, s.legal →
    (∃ b : List Byte, StoreImage.ofSettings s = .bytes b ∧ b.length = 256 ∧ b.take 4 = [0xA5, 0x5A, 0x00, 0xA8] ∧
      b.drop 174 = List.replicate 82 0xFF) ∧
    (StoreImage.ofSettings s).judge = .valid ∧ (StoreImage.ofSettings s).settings = s

/-- While RSTN is held active no command but a full reset changes anything but the levels of the input lines. RSTN
going active stops sending, stops a write in flight and leaves its image invalid, and holds the output lines at
their reset levels (R143, R157, R159). -/
def Obligations.RstnHoldsThePart : Prop :=
  (∀ (c : Instr) (s : State), s.inReset = true → c ≠ .fullReset →
    ∃ (odb sdet frzin : Level) (tdn : PerLane Level),
      exec c s = .next { s with pins := { s.pins with odb := odb, sdet := sdet, tdn := tdn, frzin := frzin } }) ∧
  (∀ s : State, s.pins.rstn = .high → ∃ image,
    exec .rstnAssertion s = .next
      { s with
        pins := { s.pins with rstn := .low, dpm := .replicate false, movok := false, frzout := true }
        ports := s.ports.map fun v => { v with sending := none }
        store := { s.store with image := image, save := none } } ∧
    (s.store.save = none → image = s.store.image) ∧ (s.store.save ≠ none → image.judge = .invalid))

/-- A full reset loads the image or the defaults and leaves every block at its reset values, FROZEN with cause START,
with STARTED latched for every port and a STORE event for the ports with SETUP; the samples of the lines come last (R14,
R16, R32, R33, R59, R68, R93, R94, R111, R123, R127, R143, R153, R158, R159). -/
def Obligations.FullResetLeavesTheResetValues : Prop :=
  ∀ s : State, ∃ t, exec .fullReset s = .next t ∧
    let stopped : Bool := s.store.save.isSome
    let image : StoreImage := if stopped then .torn else s.store.image
    let live := image.settings
    let active := decide (s.pins.frzin = .low)
    t.axis = ⟨0, 0, .forward⟩ ∧ t.detector = ⟨Level.isActive live.sdetPolarity s.pins.sdet, none, none, 0, 0⟩ ∧
    t.list = ⟨[], 1, false, 0, 0, 0, false⟩ ∧ t.passages = ⟨[], 0, 0⟩ ∧
    (∀ x, t.lane x =
      ⟨if live.lanesFitted.get x then .idle else .off, false,
        if Level.isActive (live.tdnPolarity.get x) (s.pins.tdn.get x) then some 0 else none, none, 0⟩) ∧
    t.hold = .free ∧ t.motion = ⟨.halt, 0⟩ ∧
    t.freeze = ⟨.frozen, .start, .nowhere, 0, none, if active then 1 else 0, if active then some .line else none⟩ ∧
    (∀ p, t.ports.get p = ⟨.hunting, [], .absent, 0, ⟨0, false⟩, ⟨0, false⟩, none, none, none⟩) ∧ t.restart = none ∧
    (∀ p, t.events.get p =
      ⟨BitVec.twoPow 24 23 |||
          (if (live.roles.get p).setup then
            match image.judge with
            | .valid => 0
            | .blank => BitVec.twoPow 24 21
            | .invalid => BitVec.twoPow 24 22
          else 0),
        0, live.defaultStatusInterval, if live.defaultStatusInterval = 0 then none else some 0⟩) ∧
    t.store = ⟨live, image, none, live.linkRate⟩ ∧
    t.pins = { s.pins with rstn := .high, dpm := .replicate false, movok := false, frzout := true } ∧
    t.pending = s.pending ∧ t.freeCount = s.freeCount

/-- The restart that takes effect leaves the same reset values under the settings as they live, with cause RESTART
from the port whose RESTART was accepted; port counters and frames begun are kept, and each set holds STARTED alone
(R160). A response that waits is not sent, nor is a status frame that waits (for the status frame the model's
reading, log 13); a status frame begun on the port of RESTART itself is kept like those of the other ports (the
model's choice, log 30). -/
def Obligations.RestartLeavesTheResetValues : Prop :=
  ∀ (s : State) (p : Port), s.inReset = false → s.restart = some ⟨p, true⟩ →
    ∃ t, exec .restartTakesEffect s = .next t ∧
    let active := decide (s.pins.frzin = .low)
    t.axis = ⟨0, 0, .forward⟩ ∧ t.detector = ⟨s.sdetLineActive, none, none, 0, 0⟩ ∧
    t.list = ⟨[], 1, false, 0, 0, 0, false⟩ ∧ t.passages = ⟨[], 0, 0⟩ ∧
    (∀ x, t.lane x =
      ⟨if s.isFitted x then .idle else .off, false, if s.tdnLineActive x then some 0 else none, none, 0⟩) ∧
    t.hold = .free ∧ t.motion = ⟨.halt, 0⟩ ∧
    t.freeze = ⟨.frozen, .restart, .port p, 0, none, if active then 1 else 0, if active then some .line else none⟩ ∧
    (∀ i, t.ports.get i =
      ⟨.hunting, [], .absent, 0, (s.ports.get i).frameErrors, (s.ports.get i).overruns, (s.ports.get i).sending, none,
        none⟩) ∧
    t.restart = none ∧
    (∀ i, t.events.get i =
      ⟨BitVec.twoPow 24 23, 0, s.live.defaultStatusInterval,
        if s.live.defaultStatusInterval = 0 then none else some 0⟩) ∧
    t.store = { s.store with save := none } ∧
    t.pins = { s.pins with dpm := .replicate false, movok := false, frzout := true } ∧
    t.pending = s.pending ∧ t.freeCount = s.freeCount

/-! ### Invariants that every step keeps -/

/-- The output lines keep following their conditions: each DPM line its permit (R72), MOVOK (R112) and FRZOUT (R124),
and all of them a held reset (R159). -/
def Obligations.OutputLinesFollow : Prop :=
  ∀ s t : State, s.linesFollow → step s = .next t → t.linesFollow

/-- A lane names an entry exactly where that entry's status for the lane is CLAIMED, and that entry is in the list. -/
def Obligations.ClaimsMatchTheList : Prop :=
  ∀ s t : State, s.claimsHold → step s = .next t → t.claimsHold

/-- The hold's seq names an entry in the list, and a lane in DOWN has the hold HELD on the seq it names. -/
def Obligations.HoldNamesAnEntry : Prop :=
  ∀ s t : State, s.holdStands → step s = .next t → t.holdStands

/-- While the motion state is GRANTED the part is in RUN, the hold is FREE and every fitted lane is IDLE. -/
def Obligations.GrantsAreSafe : Prop :=
  ∀ s t : State, s.grantSafe → step s = .next t → t.grantSafe

/-- Squeezes done in every lane record of every entry and passage record lie between 0 and 3. -/
def Obligations.SqueezesStayBounded : Prop :=
  ∀ s t : State, s.squeezesHold → step s = .next t → t.squeezesHold

/-- The list keeps at most 48 entries with distinct seqs and strictly rising positions, under legal settings. -/
def Obligations.ListStaysOrdered : Prop :=
  ∀ s t : State, s.live.legal → s.listOrdered → step s = .next t → t.listOrdered

/-- The settings stay legal, and so do those of the image and of the snapshot. -/
def Obligations.SettingsStayLegal : Prop :=
  ∀ s t : State, s.settingsLegal → step s = .next t → t.settingsLegal

/-- Every entry created is accounted for, and so is every departure; at most 32 passage records are held. The axis
stays within its limit, the queues, key windows and the further-cause count within theirs. -/
def Obligations.CountersAgree : Prop :=
  (∀ s t : State, s.countsAgree → step s = .next t → t.countsAgree) ∧
  (∀ s t : State, s.inBounds → step s = .next t → t.inBounds)

/-- A candidate that is made and not offered waits for the AXIS PRESET at the front of the queue, so the very next
command takes the preset and offers it (R13; the model's choice, log 26). In the same way an axis change that the
Sleeper List has not taken waits for the edge at the front of the queue (R31; the model's choice, log 31). -/
def Obligations.WaitingCandidateMeetsItsPreset : Prop :=
  (∀ s t : State, s.candidateMeets → step s = .next t → t.candidateMeets) ∧
  (∀ s t : State, s.changeMeets → step s = .next t → t.changeMeets)

/-- Every invariant above holds at `State.reset`. -/
def Obligations.InvariantsHoldAtReset : Prop :=
  State.reset.linesFollow ∧ State.reset.squeezesHold ∧ State.reset.holdStands ∧ State.reset.grantSafe ∧
    State.reset.countsAgree ∧ State.reset.listOrdered ∧ State.reset.settingsLegal ∧ State.reset.inBounds ∧
    State.reset.candidateMeets ∧ State.reset.changeMeets ∧ State.reset.claimsHold
end

