-- ==== Sys2Proof/Laws/State.lean ====
section
/-! SUPPORT. Reading and writing the values held for each lane and each port, and equality of such values. -/

namespace Sys2Proof

namespace PerLane

variable {α β : Type}

@[simp] theorem get_set (v : PerLane α) (x y : Lane) (a : α) : (v.set x a).get y = if y = x then a else v.get y := by
  cases x <;> cases y <;> rfl

@[simp] theorem get_modify (v : PerLane α) (x y : Lane) (f : α → α) :
    (v.modify x f).get y = if y = x then f (v.get x) else v.get y := by
  cases x <;> cases y <;> rfl

@[simp] theorem get_ofFn (f : Lane → α) (x : Lane) : (PerLane.ofFn f).get x = f x := by cases x <;> rfl

@[simp] theorem get_map (f : α → β) (v : PerLane α) (x : Lane) : (v.map f).get x = f (v.get x) := by cases x <;> rfl

@[simp] theorem get_replicate (a : α) (x : Lane) : (PerLane.replicate a).get x = a := by cases x <;> rfl

@[simp] theorem set_get (v : PerLane α) (x : Lane) : v.set x (v.get x) = v := by cases x <;> rfl

@[simp] theorem modify_modify (v : PerLane α) (x : Lane) (f g : α → α) :
    (v.modify x f).modify x g = v.modify x (fun a => g (f a)) := by
  cases x <;> rfl

theorem ext_get {v w : PerLane α} (h : ∀ x, v.get x = w.get x) : v = w := by
  cases v; cases w
  have ha := h .a
  have hb := h .b
  have hc := h .c
  have hd := h .d
  simp only [PerLane.get] at ha hb hc hd
  subst ha hb hc hd
  rfl

theorem mem_toList (v : PerLane α) (a : α) : a ∈ v.toList ↔ ∃ x, v.get x = a := by
  constructor
  · intro h
    simp only [toList, List.mem_cons, List.not_mem_nil, or_false] at h
    rcases h with h | h | h | h
    · exact ⟨.a, h.symm⟩
    · exact ⟨.b, h.symm⟩
    · exact ⟨.c, h.symm⟩
    · exact ⟨.d, h.symm⟩
  · rintro ⟨x, rfl⟩
    cases x <;> simp [toList, get]

end PerLane

namespace PerPort

variable {α β : Type}

@[simp] theorem get_set (v : PerPort α) (p r : Port) (a : α) : (v.set p a).get r = if r = p then a else v.get r := by
  cases p <;> cases r <;> rfl

@[simp] theorem get_modify (v : PerPort α) (p r : Port) (f : α → α) :
    (v.modify p f).get r = if r = p then f (v.get p) else v.get r := by
  cases p <;> cases r <;> rfl

@[simp] theorem get_ofFn (f : Port → α) (p : Port) : (PerPort.ofFn f).get p = f p := by cases p <;> rfl

@[simp] theorem get_map (f : α → β) (v : PerPort α) (p : Port) : (v.map f).get p = f (v.get p) := by cases p <;> rfl

@[simp] theorem get_replicate (a : α) (p : Port) : (PerPort.replicate a).get p = a := by cases p <;> rfl

@[simp] theorem set_get (v : PerPort α) (p : Port) : v.set p (v.get p) = v := by cases p <;> rfl

@[simp] theorem modify_modify (v : PerPort α) (p : Port) (f g : α → α) :
    (v.modify p f).modify p g = v.modify p (fun a => g (f a)) := by
  cases p <;> rfl

theorem ext_get {v w : PerPort α} (h : ∀ p, v.get p = w.get p) : v = w := by
  cases v; cases w
  have h0 := h .p0
  have h1 := h .p1
  have h2 := h .p2
  have h3 := h .p3
  have h4 := h .p4
  have h5 := h .p5
  simp only [PerPort.get] at h0 h1 h2 h3 h4 h5
  subst h0 h1 h2 h3 h4 h5
  rfl

end PerPort

@[simp] theorem Lane.mem_all (x : Lane) : x ∈ Lane.all := by cases x <;> simp [Lane.all]

@[simp] theorem Port.mem_all (p : Port) : p ∈ Port.all := by cases p <;> simp [Port.all]

end Sys2Proof
end

