-- ==== Sys2Proof/Laws/Ops.lean ====
section
/-! SUPPORT. What each shared operation leaves as it was: one lemma an operation, every field it cannot change. A proof
about a meaning cites these in place of unfolding the operations. -/

namespace Sys2Proof.Machine

@[simp] theorem State.raise_keeps (s : State) (e : Event) :
    (s.raise e).axis = s.axis ∧ (s.raise e).detector = s.detector ∧ (s.raise e).list = s.list ∧
    (s.raise e).passages = s.passages ∧ (s.raise e).lanes = s.lanes ∧ (s.raise e).hold = s.hold ∧
    (s.raise e).motion = s.motion ∧ (s.raise e).freeze = s.freeze ∧ (s.raise e).ports = s.ports ∧
    (s.raise e).restart = s.restart ∧ (s.raise e).store = s.store ∧ (s.raise e).pins = s.pins ∧
    (s.raise e).freeCount = s.freeCount ∧ (s.raise e).pending = s.pending := by
  simp [State.raise]

@[simp] theorem State.raise?_keeps (s : State) (e : Option Event) :
    (s.raise? e).axis = s.axis ∧ (s.raise? e).detector = s.detector ∧ (s.raise? e).list = s.list ∧
    (s.raise? e).passages = s.passages ∧ (s.raise? e).lanes = s.lanes ∧ (s.raise? e).hold = s.hold ∧
    (s.raise? e).motion = s.motion ∧ (s.raise? e).freeze = s.freeze ∧ (s.raise? e).ports = s.ports ∧
    (s.raise? e).restart = s.restart ∧ (s.raise? e).store = s.store ∧ (s.raise? e).pins = s.pins ∧
    (s.raise? e).freeCount = s.freeCount ∧ (s.raise? e).pending = s.pending := by
  cases e <;> simp [State.raise?]

@[simp] theorem State.haltAtAxis_keeps (s : State) :
    (s.haltAtAxis).axis = s.axis ∧ (s.haltAtAxis).detector = s.detector ∧ (s.haltAtAxis).list = s.list ∧
    (s.haltAtAxis).passages = s.passages ∧ (s.haltAtAxis).lanes = s.lanes ∧ (s.haltAtAxis).hold = s.hold ∧
    (s.haltAtAxis).freeze = s.freeze ∧ (s.haltAtAxis).ports = s.ports ∧ (s.haltAtAxis).restart = s.restart ∧
    (s.haltAtAxis).events = s.events ∧ (s.haltAtAxis).store = s.store ∧ (s.haltAtAxis).pins = s.pins ∧
    (s.haltAtAxis).freeCount = s.freeCount ∧ (s.haltAtAxis).pending = s.pending := by
  simp [State.haltAtAxis]

@[simp] theorem State.handCause_keeps (s : State) (c : FreezeCause) (o : FreezeSource) (q : Option SeqNo) :
    (s.handCause c o q).axis = s.axis ∧ (s.handCause c o q).detector = s.detector ∧
    (s.handCause c o q).list = s.list ∧ (s.handCause c o q).passages = s.passages ∧
    (s.handCause c o q).lanes = s.lanes ∧ (s.handCause c o q).hold = s.hold ∧ (s.handCause c o q).ports = s.ports ∧
    (s.handCause c o q).restart = s.restart ∧ (s.handCause c o q).store = s.store ∧
    (s.handCause c o q).pins = s.pins ∧ (s.handCause c o q).freeCount = s.freeCount ∧
    (s.handCause c o q).pending = s.pending := by
  cases h : s.freeze.state <;> simp [State.handCause, h]

@[simp] theorem State.endGrant_keeps (s : State) :
    (s.endGrant).axis = s.axis ∧ (s.endGrant).detector = s.detector ∧ (s.endGrant).list = s.list ∧
    (s.endGrant).passages = s.passages ∧ (s.endGrant).lanes = s.lanes ∧ (s.endGrant).hold = s.hold ∧
    (s.endGrant).freeze = s.freeze ∧ (s.endGrant).ports = s.ports ∧ (s.endGrant).restart = s.restart ∧
    (s.endGrant).store = s.store ∧ (s.endGrant).pins = s.pins ∧ (s.endGrant).freeCount = s.freeCount ∧
    (s.endGrant).pending = s.pending := by
  simp [State.endGrant]

@[simp] theorem State.endGrantIfAny_keeps (s : State) :
    (s.endGrantIfAny).axis = s.axis ∧ (s.endGrantIfAny).detector = s.detector ∧ (s.endGrantIfAny).list = s.list ∧
    (s.endGrantIfAny).passages = s.passages ∧ (s.endGrantIfAny).lanes = s.lanes ∧ (s.endGrantIfAny).hold = s.hold ∧
    (s.endGrantIfAny).freeze = s.freeze ∧ (s.endGrantIfAny).ports = s.ports ∧
    (s.endGrantIfAny).restart = s.restart ∧ (s.endGrantIfAny).store = s.store ∧ (s.endGrantIfAny).pins = s.pins ∧
    (s.endGrantIfAny).freeCount = s.freeCount ∧ (s.endGrantIfAny).pending = s.pending := by
  cases h : s.motion.state.isGranted <;> simp [State.endGrantIfAny, h]

@[simp] theorem State.discardOldest_keeps (s : State) :
    (s.discardOldest).axis = s.axis ∧ (s.discardOldest).detector = s.detector ∧ (s.discardOldest).list = s.list ∧
    (s.discardOldest).lanes = s.lanes ∧ (s.discardOldest).hold = s.hold ∧ (s.discardOldest).motion = s.motion ∧
    (s.discardOldest).freeze = s.freeze ∧ (s.discardOldest).ports = s.ports ∧
    (s.discardOldest).restart = s.restart ∧ (s.discardOldest).store = s.store ∧ (s.discardOldest).pins = s.pins ∧
    (s.discardOldest).freeCount = s.freeCount ∧ (s.discardOldest).pending = s.pending := by
  simp [State.discardOldest]

@[simp] theorem State.appendRecord_keeps (s : State) (r : PassageRecord) :
    (s.appendRecord r).axis = s.axis ∧ (s.appendRecord r).detector = s.detector ∧ (s.appendRecord r).list = s.list ∧
    (s.appendRecord r).lanes = s.lanes ∧ (s.appendRecord r).hold = s.hold ∧ (s.appendRecord r).motion = s.motion ∧
    (s.appendRecord r).freeze = s.freeze ∧ (s.appendRecord r).ports = s.ports ∧
    (s.appendRecord r).restart = s.restart ∧ (s.appendRecord r).events = s.events ∧
    (s.appendRecord r).store = s.store ∧ (s.appendRecord r).pins = s.pins ∧
    (s.appendRecord r).freeCount = s.freeCount ∧ (s.appendRecord r).pending = s.pending := by
  simp [State.appendRecord]

@[simp] theorem State.takeRecord_keeps (s : State) (r : PassageRecord) :
    (s.takeRecord r).axis = s.axis ∧ (s.takeRecord r).detector = s.detector ∧ (s.takeRecord r).list = s.list ∧
    (s.takeRecord r).lanes = s.lanes ∧ (s.takeRecord r).hold = s.hold ∧ (s.takeRecord r).motion = s.motion ∧
    (s.takeRecord r).freeze = s.freeze ∧ (s.takeRecord r).ports = s.ports ∧ (s.takeRecord r).restart = s.restart ∧
    (s.takeRecord r).store = s.store ∧ (s.takeRecord r).pins = s.pins ∧ (s.takeRecord r).freeCount = s.freeCount ∧
    (s.takeRecord r).pending = s.pending := by
  unfold State.takeRecord; split <;> simp

@[simp] theorem State.depart_keeps (s : State) (e : Entry) (es : List Entry) (o : PassageOutcome) :
    (s.depart e es o).axis = s.axis ∧ (s.depart e es o).detector = s.detector ∧ (s.depart e es o).lanes = s.lanes ∧
    (s.depart e es o).hold = s.hold ∧ (s.depart e es o).motion = s.motion ∧ (s.depart e es o).freeze = s.freeze ∧
    (s.depart e es o).ports = s.ports ∧ (s.depart e es o).restart = s.restart ∧ (s.depart e es o).store = s.store ∧
    (s.depart e es o).pins = s.pins ∧ (s.depart e es o).freeCount = s.freeCount ∧
    (s.depart e es o).pending = s.pending := by
  simp [State.depart]

@[simp] theorem State.holdBack_keeps (s : State) (e : Entry) (es : List Entry) :
    (s.holdBack e es).axis = s.axis ∧ (s.holdBack e es).detector = s.detector ∧
    (s.holdBack e es).passages = s.passages ∧ (s.holdBack e es).lanes = s.lanes ∧ (s.holdBack e es).hold = s.hold ∧
    (s.holdBack e es).motion = s.motion ∧ (s.holdBack e es).freeze = s.freeze ∧ (s.holdBack e es).ports = s.ports ∧
    (s.holdBack e es).restart = s.restart ∧ (s.holdBack e es).store = s.store ∧ (s.holdBack e es).pins = s.pins ∧
    (s.holdBack e es).freeCount = s.freeCount ∧ (s.holdBack e es).pending = s.pending := by
  unfold State.holdBack; split <;> simp

@[simp] theorem State.retireFrom_keeps (a : Int) (es : List Entry) (s : State) :
    (State.retireFrom a es s).axis = s.axis ∧ (State.retireFrom a es s).detector = s.detector ∧
    (State.retireFrom a es s).lanes = s.lanes ∧ (State.retireFrom a es s).hold = s.hold ∧
    (State.retireFrom a es s).motion = s.motion ∧ (State.retireFrom a es s).freeze = s.freeze ∧
    (State.retireFrom a es s).ports = s.ports ∧ (State.retireFrom a es s).restart = s.restart ∧
    (State.retireFrom a es s).store = s.store ∧ (State.retireFrom a es s).pins = s.pins ∧
    (State.retireFrom a es s).freeCount = s.freeCount ∧ (State.retireFrom a es s).pending = s.pending := by
  induction es generalizing s with
  | nil => simp [State.retireFrom]
  | cons e es ih =>
    unfold State.retireFrom
    split
    · simp
    · split
      · simp
      · simp [ih]

@[simp] theorem State.retire_keeps (s : State) :
    (s.retire).axis = s.axis ∧ (s.retire).detector = s.detector ∧ (s.retire).lanes = s.lanes ∧
    (s.retire).hold = s.hold ∧ (s.retire).motion = s.motion ∧ (s.retire).freeze = s.freeze ∧
    (s.retire).ports = s.ports ∧ (s.retire).restart = s.restart ∧ (s.retire).store = s.store ∧
    (s.retire).pins = s.pins ∧ (s.retire).freeCount = s.freeCount ∧ (s.retire).pending = s.pending := by
  simp [State.retire]

/-- Retirement reads and writes nothing of the lanes (R48 to R52). -/
theorem State.retireFrom_lanes (a : Int) (es : List Entry) (s : State) (l : PerLane LaneController) :
    State.retireFrom a es { s with lanes := l } = { State.retireFrom a es s with lanes := l } := by
  induction es generalizing s with
  | nil => rfl
  | cons d es ih =>
    unfold State.retireFrom
    have due : ({ s with lanes := l } : State).isDue a d = s.isDue a d := rfl
    have back : ({ s with lanes := l } : State).isHeldBack d = s.isHeldBack d := rfl
    have out : ({ s with lanes := l } : State).outcome d = s.outcome d := rfl
    rw [due, back, out]
    split
    · rfl
    · split
      · unfold State.holdBack
        split <;> rfl
      · rw [← ih]
        congr 1
        unfold State.depart State.takeRecord
        simp only
        split <;> rfl

@[simp] theorem State.updateEntry_keeps (s : State) (q : SeqNo) (f : Entry → Entry) :
    (s.updateEntry q f).axis = s.axis ∧ (s.updateEntry q f).detector = s.detector ∧
    (s.updateEntry q f).passages = s.passages ∧ (s.updateEntry q f).lanes = s.lanes ∧
    (s.updateEntry q f).hold = s.hold ∧ (s.updateEntry q f).motion = s.motion ∧
    (s.updateEntry q f).freeze = s.freeze ∧ (s.updateEntry q f).ports = s.ports ∧
    (s.updateEntry q f).restart = s.restart ∧ (s.updateEntry q f).events = s.events ∧
    (s.updateEntry q f).store = s.store ∧ (s.updateEntry q f).pins = s.pins ∧
    (s.updateEntry q f).freeCount = s.freeCount ∧ (s.updateEntry q f).pending = s.pending := by
  simp [State.updateEntry]

@[simp] theorem State.updateLaneRecord_keeps (s : State) (q : SeqNo) (x : Lane) (f : LaneRecord → LaneRecord) :
    (s.updateLaneRecord q x f).axis = s.axis ∧ (s.updateLaneRecord q x f).detector = s.detector ∧
    (s.updateLaneRecord q x f).passages = s.passages ∧ (s.updateLaneRecord q x f).lanes = s.lanes ∧
    (s.updateLaneRecord q x f).hold = s.hold ∧ (s.updateLaneRecord q x f).motion = s.motion ∧
    (s.updateLaneRecord q x f).freeze = s.freeze ∧ (s.updateLaneRecord q x f).ports = s.ports ∧
    (s.updateLaneRecord q x f).restart = s.restart ∧ (s.updateLaneRecord q x f).events = s.events ∧
    (s.updateLaneRecord q x f).store = s.store ∧ (s.updateLaneRecord q x f).pins = s.pins ∧
    (s.updateLaneRecord q x f).freeCount = s.freeCount ∧ (s.updateLaneRecord q x f).pending = s.pending := by
  simp [State.updateLaneRecord]

@[simp] theorem State.setStatus_keeps (s : State) (q : SeqNo) (x : Lane) (t : LaneStatus) :
    (s.setStatus q x t).axis = s.axis ∧ (s.setStatus q x t).detector = s.detector ∧
    (s.setStatus q x t).passages = s.passages ∧ (s.setStatus q x t).lanes = s.lanes ∧
    (s.setStatus q x t).hold = s.hold ∧ (s.setStatus q x t).motion = s.motion ∧
    (s.setStatus q x t).freeze = s.freeze ∧ (s.setStatus q x t).ports = s.ports ∧
    (s.setStatus q x t).restart = s.restart ∧ (s.setStatus q x t).events = s.events ∧
    (s.setStatus q x t).store = s.store ∧ (s.setStatus q x t).pins = s.pins ∧
    (s.setStatus q x t).freeCount = s.freeCount ∧ (s.setStatus q x t).pending = s.pending := by
  simp [State.setStatus]

@[simp] theorem State.create_keeps (s : State) (a : Int) (w : Nat) (o : Origin) :
    (s.create a w o).axis = s.axis ∧ (s.create a w o).detector = s.detector ∧
    (s.create a w o).passages = s.passages ∧ (s.create a w o).lanes = s.lanes ∧ (s.create a w o).hold = s.hold ∧
    (s.create a w o).motion = s.motion ∧ (s.create a w o).freeze = s.freeze ∧ (s.create a w o).ports = s.ports ∧
    (s.create a w o).restart = s.restart ∧ (s.create a w o).store = s.store ∧ (s.create a w o).pins = s.pins ∧
    (s.create a w o).freeCount = s.freeCount ∧ (s.create a w o).pending = s.pending := by
  simp [State.create]

@[simp] theorem State.rejectCandidate_keeps (s : State) :
    (s.rejectCandidate).axis = s.axis ∧ (s.rejectCandidate).list = s.list ∧
    (s.rejectCandidate).passages = s.passages ∧ (s.rejectCandidate).lanes = s.lanes ∧
    (s.rejectCandidate).hold = s.hold ∧ (s.rejectCandidate).motion = s.motion ∧
    (s.rejectCandidate).freeze = s.freeze ∧ (s.rejectCandidate).ports = s.ports ∧
    (s.rejectCandidate).restart = s.restart ∧ (s.rejectCandidate).store = s.store ∧
    (s.rejectCandidate).pins = s.pins ∧ (s.rejectCandidate).freeCount = s.freeCount ∧
    (s.rejectCandidate).pending = s.pending := by
  simp [State.rejectCandidate]

@[simp] theorem State.loseCandidate_keeps (s : State) :
    (s.loseCandidate).axis = s.axis ∧ (s.loseCandidate).passages = s.passages ∧ (s.loseCandidate).lanes = s.lanes ∧
    (s.loseCandidate).hold = s.hold ∧ (s.loseCandidate).motion = s.motion ∧ (s.loseCandidate).freeze = s.freeze ∧
    (s.loseCandidate).ports = s.ports ∧ (s.loseCandidate).restart = s.restart ∧ (s.loseCandidate).store = s.store ∧
    (s.loseCandidate).pins = s.pins ∧ (s.loseCandidate).freeCount = s.freeCount ∧
    (s.loseCandidate).pending = s.pending := by
  simp [State.loseCandidate]

@[simp] theorem State.dropInFlight_keeps (s : State) :
    (s.dropInFlight).axis = s.axis ∧ (s.dropInFlight).list = s.list ∧ (s.dropInFlight).passages = s.passages ∧
    (s.dropInFlight).lanes = s.lanes ∧ (s.dropInFlight).hold = s.hold ∧ (s.dropInFlight).motion = s.motion ∧
    (s.dropInFlight).freeze = s.freeze ∧ (s.dropInFlight).ports = s.ports ∧ (s.dropInFlight).restart = s.restart ∧
    (s.dropInFlight).events = s.events ∧ (s.dropInFlight).store = s.store ∧ (s.dropInFlight).pins = s.pins ∧
    (s.dropInFlight).freeCount = s.freeCount ∧ (s.dropInFlight).pending = s.pending := by
  simp [State.dropInFlight]

@[simp] theorem State.decideOffer_keeps (s : State) (c : Int) (w : Nat) :
    (s.decideOffer c w).axis = s.axis ∧ (s.decideOffer c w).passages = s.passages ∧
    (s.decideOffer c w).lanes = s.lanes ∧ (s.decideOffer c w).hold = s.hold ∧
    (s.decideOffer c w).motion = s.motion ∧ (s.decideOffer c w).freeze = s.freeze ∧
    (s.decideOffer c w).ports = s.ports ∧ (s.decideOffer c w).restart = s.restart ∧
    (s.decideOffer c w).store = s.store ∧ (s.decideOffer c w).pins = s.pins ∧
    (s.decideOffer c w).freeCount = s.freeCount ∧ (s.decideOffer c w).pending = s.pending := by
  unfold State.decideOffer
  split
  · simp
  · split
    · simp
    · split <;> simp

@[simp] theorem State.offer_keeps (s : State) (c : Int) (w : Nat) :
    (s.offer c w).axis = s.axis ∧ (s.offer c w).passages = s.passages ∧ (s.offer c w).lanes = s.lanes ∧
    (s.offer c w).hold = s.hold ∧ (s.offer c w).motion = s.motion ∧ (s.offer c w).freeze = s.freeze ∧
    (s.offer c w).ports = s.ports ∧ (s.offer c w).restart = s.restart ∧ (s.offer c w).store = s.store ∧
    (s.offer c w).pins = s.pins ∧ (s.offer c w).freeCount = s.freeCount ∧ (s.offer c w).pending = s.pending := by
  simp [State.offer]

@[simp] theorem State.updateLane_keeps (s : State) (x : Lane) (f : LaneController → LaneController) :
    (s.updateLane x f).axis = s.axis ∧ (s.updateLane x f).detector = s.detector ∧ (s.updateLane x f).list = s.list ∧
    (s.updateLane x f).passages = s.passages ∧ (s.updateLane x f).hold = s.hold ∧
    (s.updateLane x f).motion = s.motion ∧ (s.updateLane x f).freeze = s.freeze ∧
    (s.updateLane x f).ports = s.ports ∧ (s.updateLane x f).restart = s.restart ∧
    (s.updateLane x f).events = s.events ∧ (s.updateLane x f).store = s.store ∧ (s.updateLane x f).pins = s.pins ∧
    (s.updateLane x f).freeCount = s.freeCount ∧ (s.updateLane x f).pending = s.pending := by
  simp [State.updateLane]

@[simp] theorem State.setLane_keeps (s : State) (x : Lane) (l : LaneState) :
    (s.setLane x l).axis = s.axis ∧ (s.setLane x l).detector = s.detector ∧ (s.setLane x l).list = s.list ∧
    (s.setLane x l).passages = s.passages ∧ (s.setLane x l).hold = s.hold ∧ (s.setLane x l).motion = s.motion ∧
    (s.setLane x l).freeze = s.freeze ∧ (s.setLane x l).ports = s.ports ∧ (s.setLane x l).restart = s.restart ∧
    (s.setLane x l).events = s.events ∧ (s.setLane x l).store = s.store ∧ (s.setLane x l).pins = s.pins ∧
    (s.setLane x l).freeCount = s.freeCount ∧ (s.setLane x l).pending = s.pending := by
  simp [State.setLane]

@[simp] theorem State.endClaim_keeps (s : State) (x : Lane) (q : SeqNo) (t : LaneStatus) :
    (s.endClaim x q t).axis = s.axis ∧ (s.endClaim x q t).detector = s.detector ∧ (s.endClaim x q t).hold = s.hold ∧
    (s.endClaim x q t).motion = s.motion ∧ (s.endClaim x q t).freeze = s.freeze ∧
    (s.endClaim x q t).ports = s.ports ∧ (s.endClaim x q t).restart = s.restart ∧
    (s.endClaim x q t).store = s.store ∧ (s.endClaim x q t).pins = s.pins ∧
    (s.endClaim x q t).freeCount = s.freeCount ∧ (s.endClaim x q t).pending = s.pending := by
  simp [State.endClaim]

@[simp] theorem State.failEntry_keeps (s : State) (x : Lane) (q : Option SeqNo) :
    (s.failEntry x q).axis = s.axis ∧ (s.failEntry x q).detector = s.detector ∧ (s.failEntry x q).lanes = s.lanes ∧
    (s.failEntry x q).hold = s.hold ∧ (s.failEntry x q).motion = s.motion ∧ (s.failEntry x q).freeze = s.freeze ∧
    (s.failEntry x q).ports = s.ports ∧ (s.failEntry x q).restart = s.restart ∧ (s.failEntry x q).store = s.store ∧
    (s.failEntry x q).pins = s.pins ∧ (s.failEntry x q).freeCount = s.freeCount ∧
    (s.failEntry x q).pending = s.pending := by
  cases q <;> simp [State.failEntry]

@[simp] theorem State.faultLane_keeps (s : State) (x : Lane) (c : LaneFaultCause) (d : Nat) :
    (s.faultLane x c d).axis = s.axis ∧ (s.faultLane x c d).detector = s.detector ∧
    (s.faultLane x c d).hold = s.hold ∧ (s.faultLane x c d).freeze = s.freeze ∧
    (s.faultLane x c d).ports = s.ports ∧ (s.faultLane x c d).restart = s.restart ∧
    (s.faultLane x c d).store = s.store ∧ (s.faultLane x c d).pins = s.pins ∧
    (s.faultLane x c d).freeCount = s.freeCount ∧ (s.faultLane x c d).pending = s.pending := by
  simp [State.faultLane]

@[simp] theorem State.unpermittedDescent_keeps (s : State) (x : Lane) :
    (s.unpermittedDescent x).axis = s.axis ∧ (s.unpermittedDescent x).detector = s.detector ∧
    (s.unpermittedDescent x).hold = s.hold ∧ (s.unpermittedDescent x).ports = s.ports ∧
    (s.unpermittedDescent x).restart = s.restart ∧ (s.unpermittedDescent x).store = s.store ∧
    (s.unpermittedDescent x).pins = s.pins ∧ (s.unpermittedDescent x).freeCount = s.freeCount ∧
    (s.unpermittedDescent x).pending = s.pending := by
  simp [State.unpermittedDescent]

@[simp] theorem State.secondFault_keeps (s : State) (x : Lane) :
    (s.secondFault x).axis = s.axis ∧ (s.secondFault x).detector = s.detector ∧ (s.secondFault x).list = s.list ∧
    (s.secondFault x).passages = s.passages ∧ (s.secondFault x).hold = s.hold ∧ (s.secondFault x).ports = s.ports ∧
    (s.secondFault x).restart = s.restart ∧ (s.secondFault x).store = s.store ∧ (s.secondFault x).pins = s.pins ∧
    (s.secondFault x).freeCount = s.freeCount ∧ (s.secondFault x).pending = s.pending := by
  simp [State.secondFault]

@[simp] theorem State.takeAssertion_keeps (s : State) (x : Lane) :
    (s.takeAssertion x).axis = s.axis ∧ (s.takeAssertion x).detector = s.detector ∧
    (s.takeAssertion x).hold = s.hold ∧ (s.takeAssertion x).ports = s.ports ∧
    (s.takeAssertion x).restart = s.restart ∧ (s.takeAssertion x).store = s.store ∧
    (s.takeAssertion x).pins = s.pins ∧ (s.takeAssertion x).freeCount = s.freeCount ∧
    (s.takeAssertion x).pending = s.pending := by
  unfold State.takeAssertion
  split
  · simp
  · simp
  · split
    · split <;> simp
    · simp
  · simp
  · simp
  · simp

@[simp] theorem State.countSqueeze_keeps (s : State) (x : Lane) (q : SeqNo) :
    (s.countSqueeze x q).axis = s.axis ∧ (s.countSqueeze x q).detector = s.detector ∧
    (s.countSqueeze x q).passages = s.passages ∧ (s.countSqueeze x q).hold = s.hold ∧
    (s.countSqueeze x q).motion = s.motion ∧ (s.countSqueeze x q).freeze = s.freeze ∧
    (s.countSqueeze x q).ports = s.ports ∧ (s.countSqueeze x q).restart = s.restart ∧
    (s.countSqueeze x q).events = s.events ∧ (s.countSqueeze x q).store = s.store ∧
    (s.countSqueeze x q).pins = s.pins ∧ (s.countSqueeze x q).freeCount = s.freeCount ∧
    (s.countSqueeze x q).pending = s.pending := by
  simp [State.countSqueeze]

@[simp] theorem State.takeRelease_keeps (s : State) (x : Lane) :
    (s.takeRelease x).axis = s.axis ∧ (s.takeRelease x).detector = s.detector ∧
    (s.takeRelease x).passages = s.passages ∧ (s.takeRelease x).hold = s.hold ∧
    (s.takeRelease x).motion = s.motion ∧ (s.takeRelease x).freeze = s.freeze ∧ (s.takeRelease x).ports = s.ports ∧
    (s.takeRelease x).restart = s.restart ∧ (s.takeRelease x).events = s.events ∧
    (s.takeRelease x).store = s.store ∧ (s.takeRelease x).pins = s.pins ∧
    (s.takeRelease x).freeCount = s.freeCount ∧ (s.takeRelease x).pending = s.pending := by
  unfold State.takeRelease; split <;> simp

@[simp] theorem State.remeasure_keeps (s : State) (x : Lane) :
    (s.remeasure x).axis = s.axis ∧ (s.remeasure x).detector = s.detector ∧ (s.remeasure x).list = s.list ∧
    (s.remeasure x).passages = s.passages ∧ (s.remeasure x).hold = s.hold ∧ (s.remeasure x).motion = s.motion ∧
    (s.remeasure x).freeze = s.freeze ∧ (s.remeasure x).ports = s.ports ∧ (s.remeasure x).restart = s.restart ∧
    (s.remeasure x).events = s.events ∧ (s.remeasure x).store = s.store ∧ (s.remeasure x).pins = s.pins ∧
    (s.remeasure x).freeCount = s.freeCount ∧ (s.remeasure x).pending = s.pending := by
  simp [State.remeasure]

@[simp] theorem State.takeDebounced_keeps (s : State) (x : Lane) :
    (s.takeDebounced x).axis = s.axis ∧ (s.takeDebounced x).detector = s.detector ∧
    (s.takeDebounced x).hold = s.hold ∧ (s.takeDebounced x).ports = s.ports ∧
    (s.takeDebounced x).restart = s.restart ∧ (s.takeDebounced x).store = s.store ∧
    (s.takeDebounced x).pins = s.pins ∧ (s.takeDebounced x).freeCount = s.freeCount ∧
    (s.takeDebounced x).pending = s.pending := by
  simp only [State.takeDebounced]; split <;> simp

@[simp] theorem State.revoke_keeps (s : State) (x : Lane) (q : SeqNo) :
    (s.revoke x q).axis = s.axis ∧ (s.revoke x q).detector = s.detector ∧ (s.revoke x q).hold = s.hold ∧
    (s.revoke x q).motion = s.motion ∧ (s.revoke x q).freeze = s.freeze ∧ (s.revoke x q).ports = s.ports ∧
    (s.revoke x q).restart = s.restart ∧ (s.revoke x q).store = s.store ∧ (s.revoke x q).pins = s.pins ∧
    (s.revoke x q).freeCount = s.freeCount ∧ (s.revoke x q).pending = s.pending := by
  simp [State.revoke]

@[simp] theorem State.revokeEach_keeps (w : State → Lane → Option SeqNo) (xs : List Lane) (s : State) :
    (State.revokeEach w xs s).axis = s.axis ∧ (State.revokeEach w xs s).detector = s.detector ∧
    (State.revokeEach w xs s).hold = s.hold ∧ (State.revokeEach w xs s).motion = s.motion ∧
    (State.revokeEach w xs s).freeze = s.freeze ∧ (State.revokeEach w xs s).ports = s.ports ∧
    (State.revokeEach w xs s).restart = s.restart ∧ (State.revokeEach w xs s).store = s.store ∧
    (State.revokeEach w xs s).pins = s.pins ∧ (State.revokeEach w xs s).freeCount = s.freeCount ∧
    (State.revokeEach w xs s).pending = s.pending := by
  induction xs generalizing s with
  | nil => simp [State.revokeEach]
  | cons x xs ih => cases h : w s x <;> simp [State.revokeEach, h, ih]

@[simp] theorem State.expireDown_keeps (s : State) (x : Lane) :
    (s.expireDown x).axis = s.axis ∧ (s.expireDown x).detector = s.detector ∧ (s.expireDown x).hold = s.hold ∧
    (s.expireDown x).freeze = s.freeze ∧ (s.expireDown x).ports = s.ports ∧ (s.expireDown x).restart = s.restart ∧
    (s.expireDown x).store = s.store ∧ (s.expireDown x).pins = s.pins ∧ (s.expireDown x).freeCount = s.freeCount ∧
    (s.expireDown x).pending = s.pending := by
  unfold State.expireDown; split <;> simp

@[simp] theorem State.expireLift_keeps (s : State) :
    (s.expireLift).axis = s.axis ∧ (s.expireLift).detector = s.detector ∧ (s.expireLift).list = s.list ∧
    (s.expireLift).passages = s.passages ∧ (s.expireLift).lanes = s.lanes ∧ (s.expireLift).motion = s.motion ∧
    (s.expireLift).freeze = s.freeze ∧ (s.expireLift).ports = s.ports ∧ (s.expireLift).restart = s.restart ∧
    (s.expireLift).store = s.store ∧ (s.expireLift).pins = s.pins ∧ (s.expireLift).freeCount = s.freeCount ∧
    (s.expireLift).pending = s.pending := by
  unfold State.expireLift; split <;> simp

@[simp] theorem State.expireOverdue_keeps (s : State) :
    (s.expireOverdue).axis = s.axis ∧ (s.expireOverdue).detector = s.detector ∧
    (s.expireOverdue).passages = s.passages ∧ (s.expireOverdue).lanes = s.lanes ∧
    (s.expireOverdue).motion = s.motion ∧ (s.expireOverdue).freeze = s.freeze ∧ (s.expireOverdue).ports = s.ports ∧
    (s.expireOverdue).restart = s.restart ∧ (s.expireOverdue).store = s.store ∧ (s.expireOverdue).pins = s.pins ∧
    (s.expireOverdue).freeCount = s.freeCount ∧ (s.expireOverdue).pending = s.pending := by
  unfold State.expireOverdue; split <;> simp

@[simp] theorem State.updatePort_keeps (s : State) (p : Port) (f : PortState → PortState) :
    (s.updatePort p f).axis = s.axis ∧ (s.updatePort p f).detector = s.detector ∧ (s.updatePort p f).list = s.list ∧
    (s.updatePort p f).passages = s.passages ∧ (s.updatePort p f).lanes = s.lanes ∧
    (s.updatePort p f).hold = s.hold ∧ (s.updatePort p f).motion = s.motion ∧ (s.updatePort p f).freeze = s.freeze ∧
    (s.updatePort p f).restart = s.restart ∧ (s.updatePort p f).events = s.events ∧
    (s.updatePort p f).store = s.store ∧ (s.updatePort p f).pins = s.pins ∧
    (s.updatePort p f).freeCount = s.freeCount ∧ (s.updatePort p f).pending = s.pending := by
  simp [State.updatePort]

@[simp] theorem State.laneLosesPort_keeps (s : State) (x : Lane) :
    (s.laneLosesPort x).axis = s.axis ∧ (s.laneLosesPort x).detector = s.detector ∧
    (s.laneLosesPort x).list = s.list ∧ (s.laneLosesPort x).passages = s.passages ∧
    (s.laneLosesPort x).hold = s.hold ∧ (s.laneLosesPort x).ports = s.ports ∧
    (s.laneLosesPort x).restart = s.restart ∧ (s.laneLosesPort x).store = s.store ∧
    (s.laneLosesPort x).pins = s.pins ∧ (s.laneLosesPort x).freeCount = s.freeCount ∧
    (s.laneLosesPort x).pending = s.pending := by
  unfold State.laneLosesPort; split <;> simp

@[simp] theorem State.holdLosesPort_keeps (s : State) (p : Port) :
    (s.holdLosesPort p).axis = s.axis ∧ (s.holdLosesPort p).detector = s.detector ∧
    (s.holdLosesPort p).list = s.list ∧ (s.holdLosesPort p).passages = s.passages ∧
    (s.holdLosesPort p).lanes = s.lanes ∧ (s.holdLosesPort p).hold = s.hold ∧ (s.holdLosesPort p).ports = s.ports ∧
    (s.holdLosesPort p).restart = s.restart ∧ (s.holdLosesPort p).store = s.store ∧
    (s.holdLosesPort p).pins = s.pins ∧ (s.holdLosesPort p).freeCount = s.freeCount ∧
    (s.holdLosesPort p).pending = s.pending := by
  unfold State.holdLosesPort; split <;> simp

@[simp] theorem State.blocksLosePort_keeps (s : State) (p : Port) :
    (s.blocksLosePort p).axis = s.axis ∧ (s.blocksLosePort p).detector = s.detector ∧
    (s.blocksLosePort p).list = s.list ∧ (s.blocksLosePort p).passages = s.passages ∧
    (s.blocksLosePort p).hold = s.hold ∧ (s.blocksLosePort p).ports = s.ports ∧
    (s.blocksLosePort p).restart = s.restart ∧ (s.blocksLosePort p).store = s.store ∧
    (s.blocksLosePort p).pins = s.pins ∧ (s.blocksLosePort p).freeCount = s.freeCount ∧
    (s.blocksLosePort p).pending = s.pending := by
  unfold State.blocksLosePort; split <;> simp

@[simp] theorem State.expirePresence_keeps (s : State) (p : Port) :
    (s.expirePresence p).axis = s.axis ∧ (s.expirePresence p).detector = s.detector ∧
    (s.expirePresence p).list = s.list ∧ (s.expirePresence p).passages = s.passages ∧
    (s.expirePresence p).hold = s.hold ∧ (s.expirePresence p).restart = s.restart ∧
    (s.expirePresence p).store = s.store ∧ (s.expirePresence p).pins = s.pins ∧
    (s.expirePresence p).freeCount = s.freeCount ∧ (s.expirePresence p).pending = s.pending := by
  unfold State.expirePresence; split <;> simp

@[simp] theorem State.refreshPresence_keeps (s : State) (p : Port) :
    (s.refreshPresence p).axis = s.axis ∧ (s.refreshPresence p).detector = s.detector ∧
    (s.refreshPresence p).list = s.list ∧ (s.refreshPresence p).passages = s.passages ∧
    (s.refreshPresence p).lanes = s.lanes ∧ (s.refreshPresence p).hold = s.hold ∧
    (s.refreshPresence p).motion = s.motion ∧ (s.refreshPresence p).freeze = s.freeze ∧
    (s.refreshPresence p).restart = s.restart ∧ (s.refreshPresence p).store = s.store ∧
    (s.refreshPresence p).pins = s.pins ∧ (s.refreshPresence p).freeCount = s.freeCount ∧
    (s.refreshPresence p).pending = s.pending := by
  unfold State.refreshPresence; split <;> simp

@[simp] theorem State.enqueue_keeps (s : State) (p : Port) (r : Request) :
    (s.enqueue p r).axis = s.axis ∧ (s.enqueue p r).detector = s.detector ∧ (s.enqueue p r).list = s.list ∧
    (s.enqueue p r).passages = s.passages ∧ (s.enqueue p r).lanes = s.lanes ∧ (s.enqueue p r).hold = s.hold ∧
    (s.enqueue p r).motion = s.motion ∧ (s.enqueue p r).freeze = s.freeze ∧ (s.enqueue p r).restart = s.restart ∧
    (s.enqueue p r).store = s.store ∧ (s.enqueue p r).pins = s.pins ∧ (s.enqueue p r).freeCount = s.freeCount ∧
    (s.enqueue p r).pending = s.pending := by
  unfold State.enqueue; split <;> simp

@[simp] theorem State.frameArrives_keeps (s : State) (p : Port) (r : Request) :
    (s.frameArrives p r).axis = s.axis ∧ (s.frameArrives p r).detector = s.detector ∧
    (s.frameArrives p r).list = s.list ∧ (s.frameArrives p r).passages = s.passages ∧
    (s.frameArrives p r).lanes = s.lanes ∧ (s.frameArrives p r).hold = s.hold ∧
    (s.frameArrives p r).motion = s.motion ∧ (s.frameArrives p r).freeze = s.freeze ∧
    (s.frameArrives p r).restart = s.restart ∧ (s.frameArrives p r).store = s.store ∧
    (s.frameArrives p r).pins = s.pins ∧ (s.frameArrives p r).freeCount = s.freeCount ∧
    (s.frameArrives p r).pending = s.pending := by
  simp [State.frameArrives]

@[simp] theorem State.receiveByte_keeps (s : State) (p : Port) (b : RxByte) :
    (s.receiveByte p b).axis = s.axis ∧ (s.receiveByte p b).detector = s.detector ∧
    (s.receiveByte p b).list = s.list ∧ (s.receiveByte p b).passages = s.passages ∧
    (s.receiveByte p b).lanes = s.lanes ∧ (s.receiveByte p b).hold = s.hold ∧
    (s.receiveByte p b).motion = s.motion ∧ (s.receiveByte p b).freeze = s.freeze ∧
    (s.receiveByte p b).restart = s.restart ∧ (s.receiveByte p b).store = s.store ∧
    (s.receiveByte p b).pins = s.pins ∧ (s.receiveByte p b).freeCount = s.freeCount ∧
    (s.receiveByte p b).pending = s.pending := by
  simp only [State.receiveByte]; split <;> simp

@[simp] theorem State.receiveBytes_keeps (s : State) (p : Port) (bs : List RxByte) :
    (s.receiveBytes p bs).axis = s.axis ∧ (s.receiveBytes p bs).detector = s.detector ∧
    (s.receiveBytes p bs).list = s.list ∧ (s.receiveBytes p bs).passages = s.passages ∧
    (s.receiveBytes p bs).lanes = s.lanes ∧ (s.receiveBytes p bs).hold = s.hold ∧
    (s.receiveBytes p bs).motion = s.motion ∧ (s.receiveBytes p bs).freeze = s.freeze ∧
    (s.receiveBytes p bs).restart = s.restart ∧ (s.receiveBytes p bs).store = s.store ∧
    (s.receiveBytes p bs).pins = s.pins ∧ (s.receiveBytes p bs).freeCount = s.freeCount ∧
    (s.receiveBytes p bs).pending = s.pending := by
  induction bs generalizing s with
  | nil => simp [State.receiveBytes]
  | cons b bs ih =>
    have h := ih (s.receiveByte p b)
    simp only [State.receiveBytes] at h
    simp [State.receiveBytes, h]

@[simp] theorem State.sendResponse_keeps (s : State) (p : Port) (f : TxFrame) :
    (s.sendResponse p f).axis = s.axis ∧ (s.sendResponse p f).detector = s.detector ∧
    (s.sendResponse p f).list = s.list ∧ (s.sendResponse p f).passages = s.passages ∧
    (s.sendResponse p f).lanes = s.lanes ∧ (s.sendResponse p f).hold = s.hold ∧
    (s.sendResponse p f).motion = s.motion ∧ (s.sendResponse p f).freeze = s.freeze ∧
    (s.sendResponse p f).restart = s.restart ∧ (s.sendResponse p f).events = s.events ∧
    (s.sendResponse p f).store = s.store ∧ (s.sendResponse p f).pins = s.pins ∧
    (s.sendResponse p f).freeCount = s.freeCount ∧ (s.sendResponse p f).pending = s.pending := by
  simp [State.sendResponse]

@[simp] theorem State.sendStatus_keeps (s : State) (p : Port) (f : TxFrame) :
    (s.sendStatus p f).axis = s.axis ∧ (s.sendStatus p f).detector = s.detector ∧ (s.sendStatus p f).list = s.list ∧
    (s.sendStatus p f).passages = s.passages ∧ (s.sendStatus p f).lanes = s.lanes ∧
    (s.sendStatus p f).hold = s.hold ∧ (s.sendStatus p f).motion = s.motion ∧ (s.sendStatus p f).freeze = s.freeze ∧
    (s.sendStatus p f).restart = s.restart ∧ (s.sendStatus p f).events = s.events ∧
    (s.sendStatus p f).store = s.store ∧ (s.sendStatus p f).pins = s.pins ∧
    (s.sendStatus p f).freeCount = s.freeCount ∧ (s.sendStatus p f).pending = s.pending := by
  simp [State.sendStatus]

@[simp] theorem State.popQueue_keeps (s : State) (p : Port) :
    (s.popQueue p).axis = s.axis ∧ (s.popQueue p).detector = s.detector ∧ (s.popQueue p).list = s.list ∧
    (s.popQueue p).passages = s.passages ∧ (s.popQueue p).lanes = s.lanes ∧ (s.popQueue p).hold = s.hold ∧
    (s.popQueue p).motion = s.motion ∧ (s.popQueue p).freeze = s.freeze ∧ (s.popQueue p).restart = s.restart ∧
    (s.popQueue p).events = s.events ∧ (s.popQueue p).store = s.store ∧ (s.popQueue p).pins = s.pins ∧
    (s.popQueue p).freeCount = s.freeCount ∧ (s.popQueue p).pending = s.pending := by
  simp [State.popQueue]

@[simp] theorem State.useKey_keeps (s : State) (p : Port) (u : KeyUse) :
    (s.useKey p u).axis = s.axis ∧ (s.useKey p u).detector = s.detector ∧ (s.useKey p u).list = s.list ∧
    (s.useKey p u).passages = s.passages ∧ (s.useKey p u).lanes = s.lanes ∧ (s.useKey p u).hold = s.hold ∧
    (s.useKey p u).motion = s.motion ∧ (s.useKey p u).freeze = s.freeze ∧ (s.useKey p u).restart = s.restart ∧
    (s.useKey p u).events = s.events ∧ (s.useKey p u).store = s.store ∧ (s.useKey p u).pins = s.pins ∧
    (s.useKey p u).freeCount = s.freeCount ∧ (s.useKey p u).pending = s.pending := by
  simp [State.useKey]

@[simp] theorem State.settle_keeps (s : State) :
    (s.settle).axis = s.axis ∧ (s.settle).detector = s.detector ∧ (s.settle).list = s.list ∧
    (s.settle).passages = s.passages ∧ (s.settle).lanes = s.lanes ∧ (s.settle).hold = s.hold ∧
    (s.settle).motion = s.motion ∧ (s.settle).freeze = s.freeze ∧ (s.settle).ports = s.ports ∧
    (s.settle).restart = s.restart ∧ (s.settle).events = s.events ∧ (s.settle).store = s.store ∧
    (s.settle).freeCount = s.freeCount ∧ (s.settle).pending = s.pending := by
  simp [State.settle]

@[simp] theorem State.updateEvents_keeps (s : State) (p : Port) (f : EventPort → EventPort) :
    (s.updateEvents p f).axis = s.axis ∧ (s.updateEvents p f).detector = s.detector ∧
    (s.updateEvents p f).list = s.list ∧ (s.updateEvents p f).passages = s.passages ∧
    (s.updateEvents p f).lanes = s.lanes ∧ (s.updateEvents p f).hold = s.hold ∧
    (s.updateEvents p f).motion = s.motion ∧ (s.updateEvents p f).freeze = s.freeze ∧
    (s.updateEvents p f).ports = s.ports ∧ (s.updateEvents p f).restart = s.restart ∧
    (s.updateEvents p f).store = s.store ∧ (s.updateEvents p f).pins = s.pins ∧
    (s.updateEvents p f).freeCount = s.freeCount ∧ (s.updateEvents p f).pending = s.pending := by
  simp [State.updateEvents]

@[simp] theorem State.detectorWatch_keeps (s : State) (d : Direction) :
    (s.detectorWatch d).axis = s.axis ∧ (s.detectorWatch d).list = s.list ∧
    (s.detectorWatch d).passages = s.passages ∧ (s.detectorWatch d).lanes = s.lanes ∧
    (s.detectorWatch d).hold = s.hold ∧ (s.detectorWatch d).motion = s.motion ∧
    (s.detectorWatch d).freeze = s.freeze ∧ (s.detectorWatch d).ports = s.ports ∧
    (s.detectorWatch d).restart = s.restart ∧ (s.detectorWatch d).store = s.store ∧
    (s.detectorWatch d).pins = s.pins ∧ (s.detectorWatch d).freeCount = s.freeCount ∧
    (s.detectorWatch d).pending = s.pending := by
  unfold State.detectorWatch; split <;> simp

@[simp] theorem State.motionWatch_keeps (s : State) :
    (s.motionWatch).axis = s.axis ∧ (s.motionWatch).detector = s.detector ∧ (s.motionWatch).list = s.list ∧
    (s.motionWatch).passages = s.passages ∧ (s.motionWatch).lanes = s.lanes ∧ (s.motionWatch).hold = s.hold ∧
    (s.motionWatch).ports = s.ports ∧ (s.motionWatch).restart = s.restart ∧ (s.motionWatch).store = s.store ∧
    (s.motionWatch).pins = s.pins ∧ (s.motionWatch).freeCount = s.freeCount ∧
    (s.motionWatch).pending = s.pending := by
  unfold State.motionWatch
  split
  · split <;> simp
  · split
    · split <;> simp
    · simp

@[simp] theorem State.listWatch_keeps (s : State) :
    (s.listWatch).axis = s.axis ∧ (s.listWatch).detector = s.detector ∧ (s.listWatch).lanes = s.lanes ∧
    (s.listWatch).hold = s.hold ∧ (s.listWatch).motion = s.motion ∧ (s.listWatch).freeze = s.freeze ∧
    (s.listWatch).ports = s.ports ∧ (s.listWatch).restart = s.restart ∧ (s.listWatch).store = s.store ∧
    (s.listWatch).pins = s.pins ∧ (s.listWatch).pending = s.pending := by
  simp only [State.listWatch]
  split
  · split <;> simp
  · simp

/-- With no edge behind its pulse the Sleeper List takes the axis change at once. -/
theorem State.listWatch_alone {s : State} (h : s.edgeBehind = false) : s.listWatch = s.retire := by
  simp [State.listWatch, h]

/-- With an edge behind its pulse the axis change is taken at once or waits; the free value is counted (log 31). -/
theorem State.listWatch_meets {s : State} (h : s.edgeBehind = true) :
    s.listWatch = ({ s with freeCount := s.freeCount + 1 } : State).retire ∨
      s.listWatch = { s with freeCount := s.freeCount + 1, list := { s.list with changeWaits := true } } := by
  simp only [State.listWatch, h, if_true]
  split
  · exact .inr rfl
  · exact .inl rfl

@[simp] theorem State.takeChange_keeps (s : State) :
    (s.takeChange).axis = s.axis ∧ (s.takeChange).detector = s.detector ∧ (s.takeChange).lanes = s.lanes ∧
    (s.takeChange).hold = s.hold ∧ (s.takeChange).motion = s.motion ∧ (s.takeChange).freeze = s.freeze ∧
    (s.takeChange).ports = s.ports ∧ (s.takeChange).restart = s.restart ∧ (s.takeChange).store = s.store ∧
    (s.takeChange).freeCount = s.freeCount ∧ (s.takeChange).pending = s.pending := by
  unfold State.takeChange; split <;> simp

@[simp] theorem State.takeChange_of_none {s : State} (h : s.list.changeWaits = false) : s.takeChange = s := by
  cases hr : s.inReset <;> simp [State.takeChange, h, hr]

@[simp] theorem State.takeChange_of_reset {s : State} (h : s.inReset = true) : s.takeChange = s := by
  simp [State.takeChange, h]

@[simp] theorem State.axisChange_keeps (s : State) (d : Direction) :
    (s.axisChange d).axis = s.axis ∧ (s.axisChange d).lanes = s.lanes ∧ (s.axisChange d).hold = s.hold ∧
    (s.axisChange d).ports = s.ports ∧ (s.axisChange d).restart = s.restart ∧ (s.axisChange d).store = s.store ∧
    (s.axisChange d).pins = s.pins ∧ (s.axisChange d).pending = s.pending := by
  simp only [State.axisChange]; split <;> simp

@[simp] theorem State.makeCandidate_keeps (s : State) (c : Candidate) :
    (s.makeCandidate c).axis = s.axis ∧ (s.makeCandidate c).passages = s.passages ∧
    (s.makeCandidate c).lanes = s.lanes ∧ (s.makeCandidate c).hold = s.hold ∧
    (s.makeCandidate c).motion = s.motion ∧ (s.makeCandidate c).freeze = s.freeze ∧
    (s.makeCandidate c).ports = s.ports ∧ (s.makeCandidate c).restart = s.restart ∧
    (s.makeCandidate c).store = s.store ∧ (s.makeCandidate c).pins = s.pins ∧
    (s.makeCandidate c).pending = s.pending := by
  simp only [State.makeCandidate]
  split
  · split <;> simp
  · simp

/-- With no AXIS PRESET behind its edge a candidate is offered at once. -/
theorem State.makeCandidate_alone {s : State} (h : s.presetBehind = false) (c : Candidate) :
    s.makeCandidate c = s.offer c.centre c.width := by
  simp [State.makeCandidate, h]

@[simp] theorem State.offerMade_keeps (s : State) :
    (s.offerMade).axis = s.axis ∧ (s.offerMade).passages = s.passages ∧ (s.offerMade).lanes = s.lanes ∧
    (s.offerMade).hold = s.hold ∧ (s.offerMade).motion = s.motion ∧ (s.offerMade).freeze = s.freeze ∧
    (s.offerMade).ports = s.ports ∧ (s.offerMade).restart = s.restart ∧ (s.offerMade).store = s.store ∧
    (s.offerMade).freeCount = s.freeCount ∧ (s.offerMade).pending = s.pending := by
  unfold State.offerMade; split <;> simp

@[simp] theorem State.offerMade_of_none {s : State} (h : s.detector.made = none) : s.offerMade = s := by
  cases hr : s.inReset <;> simp [State.offerMade, h, hr]

@[simp] theorem State.offerMade_of_reset {s : State} (h : s.inReset = true) : s.offerMade = s := by
  simp [State.offerMade, h]

@[simp] theorem Flags.mem_nub (c : Instr) (l : List Instr) : c ∈ Flags.nub l ↔ c ∈ l := by
  induction l with
  | nil => simp [Flags.nub]
  | cons d l ih =>
    by_cases h : c = d <;> simp [Flags.nub, h, ih]

theorem Flags.nodup_nub (l : List Instr) : (Flags.nub l).Nodup := by
  induction l with
  | nil => simp [Flags.nub]
  | cons d l ih => exact List.nodup_cons.2 ⟨by simp, ih.filter _⟩

/-- What is due enters in some order: every command once, and nothing else (log 5). -/
theorem State.freeOrder_perm (s : State) {due : List Instr} (h : due.Nodup) : (s.freeOrder due).Perm due := by
  unfold State.freeOrder
  split
  · exact .refl _
  · exact (List.perm_ext_iff_of_nodup (Flags.nodup_nub _) h).2 fun c => by simp

/-- An order is counted where it orders two commands or more (log 5). -/
theorem State.countAfter_eq (s : State) {due queue : List Instr} (h : queue.Perm due) :
    s.countAfter due = if 2 ≤ queue.length then s.freeCount + 1 else s.freeCount := by
  have := h.length_eq
  unfold State.countAfter
  split <;> split <;> first | rfl | omega

@[simp] theorem State.runExpiry_of_not_reached {s : State} {c : Instr} (h : s.reaches c = false) :
    s.runExpiry c = s := by
  simp [State.runExpiry, h]

@[simp] theorem State.runExpiry_keeps (s : State) (c : Instr) :
    (s.runExpiry c).axis = s.axis ∧ (s.runExpiry c).detector = s.detector ∧ (s.runExpiry c).restart = s.restart ∧
    (s.runExpiry c).store = s.store ∧ (s.runExpiry c).pins = s.pins ∧ (s.runExpiry c).freeCount = s.freeCount ∧
    (s.runExpiry c).pending = s.pending := by
  unfold State.runExpiry
  split
  · split <;> simp
  · simp

@[simp] theorem State.takeActiveEdge_keeps (s : State) :
    (s.takeActiveEdge).axis = s.axis ∧ (s.takeActiveEdge).passages = s.passages ∧
    (s.takeActiveEdge).lanes = s.lanes ∧ (s.takeActiveEdge).hold = s.hold ∧ (s.takeActiveEdge).motion = s.motion ∧
    (s.takeActiveEdge).freeze = s.freeze ∧ (s.takeActiveEdge).ports = s.ports ∧
    (s.takeActiveEdge).restart = s.restart ∧ (s.takeActiveEdge).store = s.store ∧ (s.takeActiveEdge).pins = s.pins ∧
    (s.takeActiveEdge).pending = s.pending := by
  unfold State.takeActiveEdge; split <;> simp

@[simp] theorem State.closeInFlight_keeps (s : State) (a : Int) :
    (s.closeInFlight a).axis = s.axis ∧ (s.closeInFlight a).passages = s.passages ∧
    (s.closeInFlight a).lanes = s.lanes ∧ (s.closeInFlight a).hold = s.hold ∧
    (s.closeInFlight a).motion = s.motion ∧ (s.closeInFlight a).freeze = s.freeze ∧
    (s.closeInFlight a).ports = s.ports ∧ (s.closeInFlight a).restart = s.restart ∧
    (s.closeInFlight a).store = s.store ∧ (s.closeInFlight a).pins = s.pins ∧
    (s.closeInFlight a).pending = s.pending := by
  simp only [State.closeInFlight]; split <;> simp

@[simp] theorem State.takeInactiveEdge_keeps (s : State) :
    (s.takeInactiveEdge).axis = s.axis ∧ (s.takeInactiveEdge).passages = s.passages ∧
    (s.takeInactiveEdge).lanes = s.lanes ∧ (s.takeInactiveEdge).hold = s.hold ∧
    (s.takeInactiveEdge).motion = s.motion ∧ (s.takeInactiveEdge).freeze = s.freeze ∧
    (s.takeInactiveEdge).ports = s.ports ∧ (s.takeInactiveEdge).restart = s.restart ∧
    (s.takeInactiveEdge).store = s.store ∧ (s.takeInactiveEdge).pins = s.pins ∧
    (s.takeInactiveEdge).pending = s.pending := by
  unfold State.takeInactiveEdge
  split
  · simp
  · simp
  · split <;> simp

@[simp] theorem State.takeEdge_keeps (s : State) (b : Bool) :
    (s.takeEdge b).axis = s.axis ∧ (s.takeEdge b).passages = s.passages ∧ (s.takeEdge b).lanes = s.lanes ∧
    (s.takeEdge b).hold = s.hold ∧ (s.takeEdge b).motion = s.motion ∧ (s.takeEdge b).freeze = s.freeze ∧
    (s.takeEdge b).ports = s.ports ∧ (s.takeEdge b).restart = s.restart ∧ (s.takeEdge b).store = s.store ∧
    (s.takeEdge b).pins = s.pins ∧ (s.takeEdge b).pending = s.pending := by
  cases h : s.axis.direction <;> cases b <;> simp [State.takeEdge, h]

@[simp] theorem State.standHold_keeps (s : State) (e : Entry) (t : LiftTarget) :
    (s.standHold e t).axis = s.axis ∧ (s.standHold e t).detector = s.detector ∧
    (s.standHold e t).passages = s.passages ∧ (s.standHold e t).lanes = s.lanes ∧
    (s.standHold e t).motion = s.motion ∧ (s.standHold e t).freeze = s.freeze ∧ (s.standHold e t).ports = s.ports ∧
    (s.standHold e t).restart = s.restart ∧ (s.standHold e t).events = s.events ∧
    (s.standHold e t).store = s.store ∧ (s.standHold e t).pins = s.pins ∧
    (s.standHold e t).freeCount = s.freeCount ∧ (s.standHold e t).pending = s.pending := by
  simp only [State.standHold]; split <;> simp

@[simp] theorem State.dropHold_keeps (s : State) (q : SeqNo) (t : LiftTarget) (b : Bool) :
    (s.dropHold q t b).axis = s.axis ∧ (s.dropHold q t b).detector = s.detector ∧
    (s.dropHold q t b).motion = s.motion ∧ (s.dropHold q t b).freeze = s.freeze ∧
    (s.dropHold q t b).ports = s.ports ∧ (s.dropHold q t b).restart = s.restart ∧
    (s.dropHold q t b).store = s.store ∧ (s.dropHold q t b).pins = s.pins ∧
    (s.dropHold q t b).freeCount = s.freeCount ∧ (s.dropHold q t b).pending = s.pending := by
  simp only [State.dropHold]; split <;> simp

@[simp] theorem State.clearHold_keeps (s : State) :
    (s.clearHold).axis = s.axis ∧ (s.clearHold).detector = s.detector ∧ (s.clearHold).lanes = s.lanes ∧
    (s.clearHold).motion = s.motion ∧ (s.clearHold).freeze = s.freeze ∧ (s.clearHold).ports = s.ports ∧
    (s.clearHold).restart = s.restart ∧ (s.clearHold).store = s.store ∧ (s.clearHold).pins = s.pins ∧
    (s.clearHold).freeCount = s.freeCount ∧ (s.clearHold).pending = s.pending := by
  simp [State.clearHold]

@[simp] theorem State.strikeEntry_keeps (s : State) (e : Entry) :
    (s.strikeEntry e).axis = s.axis ∧ (s.strikeEntry e).detector = s.detector ∧ (s.strikeEntry e).lanes = s.lanes ∧
    (s.strikeEntry e).hold = s.hold ∧ (s.strikeEntry e).motion = s.motion ∧ (s.strikeEntry e).freeze = s.freeze ∧
    (s.strikeEntry e).ports = s.ports ∧ (s.strikeEntry e).restart = s.restart ∧ (s.strikeEntry e).store = s.store ∧
    (s.strikeEntry e).pins = s.pins ∧ (s.strikeEntry e).freeCount = s.freeCount ∧
    (s.strikeEntry e).pending = s.pending := by
  simp [State.strikeEntry]

@[simp] theorem State.takeClaim_keeps (s : State) (x : Lane) (q : SeqNo) :
    (s.takeClaim x q).axis = s.axis ∧ (s.takeClaim x q).detector = s.detector ∧
    (s.takeClaim x q).passages = s.passages ∧ (s.takeClaim x q).hold = s.hold ∧
    (s.takeClaim x q).motion = s.motion ∧ (s.takeClaim x q).freeze = s.freeze ∧ (s.takeClaim x q).ports = s.ports ∧
    (s.takeClaim x q).restart = s.restart ∧ (s.takeClaim x q).events = s.events ∧
    (s.takeClaim x q).store = s.store ∧ (s.takeClaim x q).pins = s.pins ∧
    (s.takeClaim x q).freeCount = s.freeCount ∧ (s.takeClaim x q).pending = s.pending := by
  simp [State.takeClaim]

@[simp] theorem State.thaw_keeps (s : State) :
    (s.thaw).axis = s.axis ∧ (s.thaw).detector = s.detector ∧ (s.thaw).hold = s.hold ∧ (s.thaw).motion = s.motion ∧
    (s.thaw).ports = s.ports ∧ (s.thaw).restart = s.restart ∧ (s.thaw).store = s.store ∧ (s.thaw).pins = s.pins ∧
    (s.thaw).freeCount = s.freeCount ∧ (s.thaw).pending = s.pending := by
  simp [State.thaw]

@[simp] theorem State.expireStatus_keeps (s : State) (p : Port) :
    (s.expireStatus p).axis = s.axis ∧ (s.expireStatus p).detector = s.detector ∧ (s.expireStatus p).list = s.list ∧
    (s.expireStatus p).passages = s.passages ∧ (s.expireStatus p).lanes = s.lanes ∧
    (s.expireStatus p).hold = s.hold ∧ (s.expireStatus p).motion = s.motion ∧ (s.expireStatus p).freeze = s.freeze ∧
    (s.expireStatus p).restart = s.restart ∧ (s.expireStatus p).store = s.store ∧ (s.expireStatus p).pins = s.pins ∧
    (s.expireStatus p).freeCount = s.freeCount ∧ (s.expireStatus p).pending = s.pending := by
  unfold State.expireStatus; split <;> simp

@[simp] theorem State.nextFrame_keeps (s : State) (p : Port) :
    (s.nextFrame p).axis = s.axis ∧ (s.nextFrame p).detector = s.detector ∧ (s.nextFrame p).list = s.list ∧
    (s.nextFrame p).passages = s.passages ∧ (s.nextFrame p).lanes = s.lanes ∧ (s.nextFrame p).hold = s.hold ∧
    (s.nextFrame p).motion = s.motion ∧ (s.nextFrame p).freeze = s.freeze ∧ (s.nextFrame p).restart = s.restart ∧
    (s.nextFrame p).events = s.events ∧ (s.nextFrame p).store = s.store ∧ (s.nextFrame p).pins = s.pins ∧
    (s.nextFrame p).pending = s.pending := by
  simp [State.nextFrame]

end Sys2Proof.Machine
end

