-- ==== Sys2Proof/Laws/Events.lean ====
section
/-! SUPPORT. Which events each shared operation latches, at which ports: one lemma an operation (R147). -/

namespace Sys2Proof.Machine

theorem Event.number_bounds (e : Event) : 1 ≤ e.number ∧ e.number ≤ 24 := by cases e <;> simp [Event.number]

/-- An event is latched after a raise where it was before, and at the targets of the event raised (R147). -/
@[simp] theorem State.hasLatched_raise (s : State) (e f : Event) (p : Port) :
    (s.raise e).hasLatched p f ↔
      s.hasLatched p f ∨ (e.number = f.number ∧ e.targets p (s.portRole p) = true) := by
  have he := e.number_bounds
  have hf := f.number_bounds
  have hl : f.number - 1 < 24 := by omega
  have hn : f.number - 1 = e.number - 1 ↔ e.number = f.number := by omega
  simp only [State.hasLatched, State.raise, PerPort.get_ofFn]
  split <;> rename_i h
  · simp [EventPort.latch, Event.bit, hl, h, hn]
  · simp [h]

/-- An event of another number is latched after a raise where it was before. -/
theorem State.hasLatched_raise_of_ne {s : State} {e f : Event} {p : Port} (h : e.number ≠ f.number) :
    (s.raise e).hasLatched p f ↔ s.hasLatched p f := by
  simp [h]

/-- What is latched depends on the events alone. -/
theorem State.hasLatched_congr {s t : State} (h : t.events = s.events) (p : Port) (e : Event) :
    t.hasLatched p e ↔ s.hasLatched p e := by
  simp [State.hasLatched, h]

@[simp] theorem State.hasLatched_settle (s : State) (p : Port) (e : Event) :
    s.settle.hasLatched p e ↔ s.hasLatched p e := .rfl

@[simp] theorem State.hasLatched_haltAtAxis (s : State) (p : Port) (e : Event) :
    s.haltAtAxis.hasLatched p e ↔ s.hasLatched p e := .rfl

@[simp] theorem State.hasLatched_dropInFlight (s : State) (p : Port) (e : Event) :
    s.dropInFlight.hasLatched p e ↔ s.hasLatched p e := .rfl

@[simp] theorem State.hasLatched_updateLane (s : State) (x : Lane) (f : LaneController → LaneController) (p : Port)
    (e : Event) : (s.updateLane x f).hasLatched p e ↔ s.hasLatched p e := .rfl

@[simp] theorem State.hasLatched_updateEntry (s : State) (q : SeqNo) (f : Entry → Entry) (p : Port) (e : Event) :
    (s.updateEntry q f).hasLatched p e ↔ s.hasLatched p e := .rfl

@[simp] theorem State.hasLatched_setStatus (s : State) (q : SeqNo) (x : Lane) (st : LaneStatus) (p : Port) (e : Event) :
    (s.setStatus q x st).hasLatched p e ↔ s.hasLatched p e := .rfl

/-- A cause latches FROZEN everywhere where it enters FROZEN, and nothing as a further cause (R125, R126). -/
@[simp] theorem State.hasLatched_handCause (s : State) (c : FreezeCause) (o : FreezeSource) (q : Option SeqNo)
    (p : Port) (e : Event) :
    (s.handCause c o q).hasLatched p e ↔ s.hasLatched p e ∨ (e.number = 1 ∧ s.freeze.state = .run) := by
  cases h : s.freeze.state
  · simp only [State.handCause, h, State.hasLatched_raise, Event.number, Event.targets, and_true]
    exact or_congr .rfl eq_comm
  · simp [State.handCause, h, State.hasLatched]

/-- The end of a grant latches MOVE_ENDED at its targets (R116, R117). -/
@[simp] theorem State.hasLatched_endGrant (s : State) (p : Port) (e : Event) :
    s.endGrant.hasLatched p e ↔
      s.hasLatched p e ∨ (Event.moveEnded.number = e.number ∧ Event.moveEnded.targets p (s.portRole p) = true) := by
  simp [State.endGrant, State.portRole, State.live]

/-- A grant in force is ended with MOVE_ENDED; in HALT nothing is latched (R117). -/
@[simp] theorem State.hasLatched_endGrantIfAny (s : State) (p : Port) (e : Event) :
    s.endGrantIfAny.hasLatched p e ↔ s.hasLatched p e ∨ (s.motion.state.isGranted = true ∧
      Event.moveEnded.number = e.number ∧ Event.moveEnded.targets p (s.portRole p) = true) := by
  unfold State.endGrantIfAny
  split <;> rename_i h <;> simp [h]

/-- A departure latches ENTRY_DEPARTED and PASSAGE_OVERFLOW alone (R52, R62). -/
theorem State.hasLatched_depart {s : State} {d : Entry} {rest : List Entry} {o : PassageOutcome} {p : Port} {e : Event}
    (h : e.number ≠ 19 ∧ e.number ≠ 20) : (s.depart d rest o).hasLatched p e ↔ s.hasLatched p e := by
  have take (s : State) (r : PassageRecord) : (s.takeRecord r).hasLatched p e ↔ s.hasLatched p e := by
    unfold State.takeRecord
    split
    · exact .rfl
    · exact State.hasLatched_raise_of_ne (e := .passageOverflow) h.2.symm
  exact (State.hasLatched_raise_of_ne (e := .entryDeparted) h.1.symm).trans (take _ _)

/-- Retirement latches ENTRY_DEPARTED, PASSAGE_OVERFLOW and STRAGGLER alone (R49, R52, R62). -/
theorem State.hasLatched_retireFrom {a : Int} {es : List Entry} {s : State} {p : Port} {e : Event}
    (h : e.number ≠ 15 ∧ e.number ≠ 19 ∧ e.number ≠ 20) :
    (State.retireFrom a es s).hasLatched p e ↔ s.hasLatched p e := by
  induction es generalizing s with
  | nil => exact .rfl
  | cons d es ih =>
    unfold State.retireFrom
    split
    · exact .rfl
    · split
      · unfold State.holdBack
        split
        · exact .rfl
        · exact State.hasLatched_raise_of_ne (e := .straggler) h.1.symm
      · exact ih.trans (State.hasLatched_depart h.2)

theorem State.hasLatched_retire {s : State} {p : Port} {e : Event}
    (h : e.number ≠ 15 ∧ e.number ≠ 19 ∧ e.number ≠ 20) : s.retire.hasLatched p e ↔ s.hasLatched p e :=
  State.hasLatched_retireFrom h

/-- A reverse pulse that discards a candidate in flight latches DETECT_REJECT alone (R23). -/
theorem State.hasLatched_detectorWatch {s : State} {d : Direction} {p : Port} {e : Event} (h : e.number ≠ 17) :
    (s.detectorWatch d).hasLatched p e ↔ s.hasLatched p e := by
  unfold State.detectorWatch
  split
  · exact State.hasLatched_raise_of_ne (e := .detectReject) h.symm
  · exact .rfl

/-- The Sleeper List's part of a pulse latches the events of retirement alone (R31, R48). -/
theorem State.hasLatched_listWatch {s : State} {p : Port} {e : Event}
    (h : e.number ≠ 15 ∧ e.number ≠ 19 ∧ e.number ≠ 20) : s.listWatch.hasLatched p e ↔ s.hasLatched p e := by
  unfold State.listWatch
  split
  · dsimp only
    split
    · exact .rfl
    · exact State.hasLatched_retire h
  · exact State.hasLatched_retire h

end Sys2Proof.Machine
end

