-- ==== Sys2Proof/Laws/Requests.lean ====
section
/-! SUPPORT. What taking, judging and answering a request come to: the lemmas a proof about one request starts from. -/

namespace Sys2Proof.Machine

theorem State.popQueue_eq (s : State) (p : Port) : s.popQueue p = s.unqueues p := rfl

/-- What a popped queue leaves readable as before. -/
@[simp] theorem State.unqueues_keeps (s : State) (p : Port) :
    (s.unqueues p).axis = s.axis ∧ (s.unqueues p).detector = s.detector ∧ (s.unqueues p).list = s.list ∧
    (s.unqueues p).passages = s.passages ∧ (s.unqueues p).lanes = s.lanes ∧ (s.unqueues p).hold = s.hold ∧
    (s.unqueues p).motion = s.motion ∧ (s.unqueues p).freeze = s.freeze ∧ (s.unqueues p).restart = s.restart ∧
    (s.unqueues p).events = s.events ∧ (s.unqueues p).store = s.store ∧ (s.unqueues p).pins = s.pins ∧
    (s.unqueues p).freeCount = s.freeCount ∧ (s.unqueues p).pending = s.pending := by
  simp [State.unqueues]

@[simp] theorem State.unqueues_key (s : State) (p i : Port) :
    ((s.unqueues p).ports.get i).keyCount = (s.ports.get i).keyCount := by
  by_cases h : i = p <;> simp [State.unqueues, h]

@[simp] theorem State.unqueues_presence (s : State) (p i : Port) :
    ((s.unqueues p).ports.get i).presence = (s.ports.get i).presence := by
  by_cases h : i = p <;> simp [State.unqueues, h]

@[simp] theorem State.unqueues_counters (s : State) (p i : Port) :
    ((s.unqueues p).ports.get i).frameErrors = (s.ports.get i).frameErrors ∧
      ((s.unqueues p).ports.get i).overruns = (s.ports.get i).overruns := by
  by_cases h : i = p <;> simp [State.unqueues, h]

/-- The conditions that requests test read the same before and after the frame has left its queue. -/
@[simp] theorem State.unqueues_conditions (s : State) (p : Port) :
    (s.unqueues p).live = s.live ∧ (s.unqueues p).quiescent = s.quiescent ∧ (s.unqueues p).frozen = s.frozen ∧
    (s.unqueues p).storeBusy = s.storeBusy ∧ (s.unqueues p).stateBlock = s.stateBlock ∧
    (s.unqueues p).frzinActive = s.frzinActive ∧ (s.unqueues p).inReset = s.inReset :=
  ⟨rfl, rfl, rfl, rfl, rfl, rfl, rfl⟩

@[simp] theorem State.unqueues_ofPort (s : State) (p i : Port) :
    (s.unqueues p).portRole i = s.portRole i ∧ (s.unqueues p).roleOf i = s.roleOf i ∧
    (s.unqueues p).laneOf? i = s.laneOf? i ∧ (s.unqueues p).lacksRead i = s.lacksRead i ∧
    (s.unqueues p).notGeometry i = s.notGeometry i ∧ (s.unqueues p).notTravel i = s.notTravel i ∧
    (s.unqueues p).portPresent i = s.portPresent i ∧ (s.unqueues p).keyOpen i = s.keyOpen i :=
  ⟨rfl, rfl, rfl, rfl, rfl, rfl, by simp [State.portPresent], by simp [State.keyOpen]⟩

@[simp] theorem State.unqueues_ofLane (s : State) (p : Port) (x : Lane) :
    (s.unqueues p).lane x = s.lane x ∧ (s.unqueues p).isFitted x = s.isFitted x ∧
    (s.unqueues p).tdnLineActive x = s.tdnLineActive x :=
  ⟨rfl, rfl, rfl⟩

@[simp] theorem State.unqueues_ofEntry (s : State) (p : Port) (q : SeqNo) (x : Lane) (e : Entry) :
    (s.unqueues p).entry? q = s.entry? q ∧ (s.unqueues p).indexOf q = s.indexOf q ∧
    (s.unqueues p).aligned x e = s.aligned x e ∧ (s.unqueues p).claimData x e = s.claimData x e ∧
    (s.unqueues p).inHoldWindow e = s.inHoldWindow e ∧ (s.unqueues p).entryHasWork e = s.entryHasWork e :=
  ⟨rfl, rfl, rfl, rfl, rfl, rfl⟩

/-- The timer ends that `reaches` accepts are the due ones of the statements. -/
theorem State.reaches_iff (s : State) (c : Instr) : s.reaches c = true ↔ s.timerDue c := by
  cases c <;> simp [State.reaches, State.timerDue, State.measuring, Flags.reached]
  case assertion x => cases (s.lane x).debounce <;> simp [and_comm]
  case release x => cases (s.lane x).debounce <;> simp [and_comm]
  case downTimerExpiry x => cases (s.lane x).state <;> simp [LaneState.downMs?, and_assoc]
  case liftTimerExpiry => cases s.hold <;> simp [HoldState.liftMs?, and_assoc]
  case overdueTimerExpiry => cases s.hold with
    | held q t ms => cases ms <;> simp [HoldState.overdueMs?, and_assoc]
    | _ => simp [HoldState.overdueMs?]
  case presenceTimerExpiry p => cases (s.ports.get p).presence <;> simp [Presence.ms?]
  case statusTimerExpiry p => cases (s.events.get p).timer <;> simp

/-- A port hands a request of a code on where one is at the front and may be taken (R136). -/
theorem State.front?_iff (s : State) (p : Port) (r : Request) (code : Byte) :
    s.front? p (fun c => c = code) = some r ↔ s.hands p r code := by
  unfold State.front? State.hands
  cases s.mayTake p <;> cases (s.ports.get p).queue <;> simp <;> grind

/-- A request that its port hands on is taken: it leaves the queue, is judged, and is answered (R136). -/
theorem State.takeRequest_of_hands {s : State} {p : Port} {r : Request} {code : Byte} (h : s.hands p r code)
    (judge : State → Request → Reply) :
    s.takeRequest p code judge = (State.respond p r (judge (s.unqueues p) r)).settle := by
  obtain ⟨hm, hq, hc⟩ := h
  cases hqq : (s.ports.get p).queue with
  | nil => simp [hqq] at hq
  | cons a rest =>
    simp only [hqq, List.head?_cons, Option.some.injEq] at hq
    subst hq
    simp [State.takeRequest, State.front?, hm, hqq, hc, State.popQueue_eq]

/-- A response formed is the frame that `sends` gives. -/
theorem State.sendResponse_eq (s : State) (p : Port) (r : Request) (kind : TxKind) (result : Result) (data : List Byte) :
    s.sendResponse p ⟨kind, Operands.responseBody r result data⟩ = s.sends p r kind result data := by
  simp only [State.sendResponse, State.sends, State.updatePort, Operands.responseBody, Operands.responseCode]
  congr 2
  funext v
  cases v with
  | mk rx queue presence keyCount frameErrors overruns sending response status => cases sending <;> rfl

theorem State.useKey_eq (s : State) (p : Port) : s.useKey p .useCount = s.countsKey p := rfl

/-- An answer that counts one key use. -/
@[simp] theorem State.respond_answer (p : Port) (r : Request) (t : State) (result : Result) (data : List Byte) :
    State.respond p r (Reply.answer t result data) = t.answers p r result data := by
  simp [State.respond, Reply.answer, State.answers, State.useKey_eq, State.sendResponse_eq]

/-- A refusal answers with its code and no data. -/
@[simp] theorem State.respond_refuse (p : Port) (r : Request) (s : State) (result : Result) :
    State.respond p r (Reply.refuse (s.unqueues p) result) = s.refuses p r result := by
  simp [Reply.refuse, State.refuses]

/-- A judged request: the lowest refusal, or the answer accepted (R142). -/
theorem State.respond_judge (p : Port) (r : Request) (s : State) (checks : List (Bool × Result)) (a : Reply) :
    (State.respond p r (Reply.judge (s.unqueues p) checks a)).settle =
      s.afterJudging p r checks (State.respond p r a) := by
  unfold Reply.judge State.afterJudging
  cases Operands.lowestRefusal checks <;> simp

end Sys2Proof.Machine
end

