-- ==== Sys2Proof/Laws/Settings.lean ====
section
/-! SUPPORT. What a write of the live settings does at once: its effects in order, a lane that is newly fitted or no longer
fitted, and the timers that expire (R70, R155). -/

namespace Sys2Proof.Machine

/-- A write gives the new live settings their effects; settings that do not change have none (R155). -/
theorem State.writeSettings_eq (s : State) (new : Settings) :
    s.writeSettings new = ({ s with store := { s.store with live := new } } : State).settingsEffect s.live := by
  unfold State.writeSettings
  dsimp only
  split
  · rename_i h
    subst h
    have fitted (x : Lane) : s.fittedEffect s.live x = s := by
      unfold State.fittedEffect
      split <;> simp_all
    show s = s.settingsEffect s.live
    simp [State.settingsEffect, State.edgeModeEffect, State.sdetPolarityEffect, State.tdnPolarityEffect, Lane.all, fitted,
      State.expireAtOnce, State.dueAtOnce, State.freeOrder, State.countAfter]
  · rfl

/-- A lane newly fitted enters IDLE and takes an active level as an assertion; one no longer fitted enters OFF (R70). -/
theorem State.fittedEffect_eq (s : State) (old : Settings) (x : Lane) :
    s.fittedEffect old x =
      if old.lanesFitted.get x = false ∧ s.live.lanesFitted.get x = true then
        if (s.lane x).tdnActive then
          ((s.setLane x .idle).faultLane x .unpermittedDescent 1).handCause .unpermittedDescent (.lane x) none
        else s.setLane x .idle
      else if old.lanesFitted.get x = true ∧ s.live.lanesFitted.get x = false then s.setLane x .off
      else s := by
  have idle : ((s.setLane x .idle).lane x).state = .idle := by simp [State.lane, State.setLane, State.updateLane]
  have level : ((s.setLane x .idle).lane x).tdnActive = (s.lane x).tdnActive := by
    simp [State.lane, State.setLane, State.updateLane]
  have taken : (s.setLane x .idle).takeAssertion x =
      ((s.setLane x .idle).faultLane x .unpermittedDescent 1).handCause .unpermittedDescent (.lane x) none := by
    unfold State.takeAssertion
    rw [idle]
    dsimp only
    unfold State.unpermittedDescent
    rw [idle]
    rfl
  unfold State.fittedEffect
  cases old.lanesFitted.get x <;> cases s.live.lanesFitted.get x <;> simp [level, taken]

/-- The timers that a write makes expire: exactly the due ones whose limit it changed, each once (log 14). -/
theorem State.mem_dueAtOnce (s : State) (old : Settings) (c : Instr) :
    c ∈ s.dueAtOnce old ↔ s.timerDue c ∧
      match c with
      | .assertion _ | .release _ => s.live.tdnDebounce ≠ old.tdnDebounce
      | .downTimerExpiry _ => s.live.downLimit ≠ old.downLimit
      | .liftTimerExpiry => s.live.liftTimeout ≠ old.liftTimeout
      | .overdueTimerExpiry => s.live.holdOverdue ≠ old.holdOverdue
      | .presenceTimerExpiry _ => s.live.presenceInterval ≠ old.presenceInterval
      | _ => False := by
  have unlessKept {P : Prop} [Decidable P] (l : List Instr) : c ∈ (if P then [] else l) ↔ ¬ P ∧ c ∈ l := by
    split <;> simp [*]
  rw [State.dueAtOnce, List.mem_filter, State.reaches_iff, and_comm]
  simp only [List.mem_append, unlessKept]
  cases c <;> simp [Flags.debounceEnds, Flags.downEnds, Flags.presenceEnds]

theorem State.nodup_dueAtOnce (s : State) (old : Settings) : (s.dueAtOnce old).Nodup := by
  unfold State.dueAtOnce
  apply List.Pairwise.filter
  split <;> split <;> split <;> split <;> split <;> decide

end Sys2Proof.Machine
end

