-- ==== Sys2Proof/Tests/Slice0.lean ====
section
/-! SUPPORT. Tests of one step each on small states, the smoke test of the well-formed commands, and for every statement
with hypotheses a concrete state and operands that meet them. -/

set_option Elab.async false

namespace Sys2Proof.Tests
open Sys2Proof Sys2Proof.Machine

/-! ### Small states -/

/-- Every port PRESENT with its key window open, in RUN with an empty list. -/
def ready : State :=
  { State.reset with
    freeze := { State.reset.freeze with state := .run }
    ports := .replicate { PortState.reset with presence := .present 0, keyCount := 3 }
    events := .replicate ⟨0, 0, 100, some 0⟩
    pins := { State.reset.pins with frzout := false } }

/-- An untouched entry, need 1 on every lane, with a lift target. -/
def sleeper (q : SeqNo) (position : Int) : Entry :=
  ⟨q, position, 250, .placed, 1, false, .plain, some ⟨22, 18, 2⟩, false, false, .replicate ⟨1, 0, .unclaimed, 0⟩⟩

/-- `ready` with these entries. -/
def holding (es : List Entry) : State :=
  { ready with list := { ready.list with entries := es, nextSeq := 3, created := BitVec.ofNat 32 es.length } }

/-- Entry 1 stands at the axis. -/
def standing : State := holding [sleeper 1 0]

/-- Entry 1 is claimed by lane A with these squeezes done. -/
def claimedEntry (n : Nat) : Entry :=
  { sleeper 1 0 with lanes := { (sleeper 1 0).lanes with a := ⟨1, 0, .claimed, n⟩ } }

/-- The hold is HELD on entry 1, and lane A is in this state with these squeezes done. -/
def working (st : LaneState) (n : Nat) : State :=
  ({ holding [claimedEntry n] with
    hold := .held 1 ⟨22, 18, 2⟩ (some 0)
    lanes := { standing.lanes with a := { LaneController.reset with state := st, tdnActive := st.isDown } } } : State).settle

/-- A request with tag 7 at the front of port p's queue. -/
def given (s : State) (p : Port) (code : Byte) (params : List Byte) : State :=
  { s with ports := s.ports.modify p fun v => { v with queue := [⟨7, code, params⟩] } }

/-- Port p has been silent for this long. -/
def silent (s : State) (p : Port) (ms : Nat) : State :=
  { s with ports := s.ports.modify p fun v => { v with presence := .present ms } }

/-- Port p was left in frame, with a length byte of 3 taken, this long ago. -/
def leftInFrame (s : State) (p : Port) (ms : Nat) : State :=
  { s with ports := s.ports.modify p fun v => { v with rx := .inFrame [3] ms } }

/-- The state after a command. -/
def after (c : Instr) (s : State) : State :=
  match exec c s with
  | .next t => t
  | _ => s

/-- The body of the frame that port p sends after a command. -/
def answer (c : Instr) (s : State) (p : Port) : List Byte :=
  (((after c s).ports.get p).sending.map TxFrame.body).getD []

theorem given_hands (s : State) (p : Port) (code : Byte) (params : List Byte)
    (h : (given s p code params).mayTake p = true) : (given s p code params).hands p ⟨7, code, params⟩ code :=
  ⟨h, by cases p <;> rfl, rfl⟩

/-! ### Well-formed commands: the check refuses what R133 refuses -/

theorem test_short_body_is_ill_formed : (Instr.validFrame .p0 [1]).wellFormed = false := by decide

theorem test_long_body_is_ill_formed : (Instr.validFrame .p0 (List.replicate 97 1)).wellFormed = false := by
  decide +kernel

theorem test_bodies_at_the_bounds_are_well_formed :
    (Instr.validFrame .p0 [1, 1]).wellFormed = true ∧
      (Instr.validFrame .p0 (List.replicate 96 1)).wellFormed = true := by decide +kernel

theorem test_valid_bytes_are_no_discarded_frame :
    (Instr.discardedFrame .p0 (Frames.onTime (Frames.wire [7, 1]))).wellFormed = false := by decide +kernel

theorem test_no_frame_is_no_discarded_frame : (Instr.discardedFrame .p0 [⟨3, false⟩]).wellFormed = false := by decide

theorem test_discarded_frame_is_well_formed :
    (Instr.discardedFrame .p0 [⟨0xC5, false⟩, ⟨1, false⟩]).wellFormed = true := by decide

/-- No row of the table gives bits, so no word spells a command. -/
theorem test_no_word_spells_a_command :
    decodeTableWord 16 0x0101 = none ∧ ready.withFetchWord 16 0x0101 = ready := by decide +kernel

/-! ### Frames -/

/-- The CRC of the digits 1 to 9 is 0x29B1, the check value of the polynomial and initial value of R133. -/
theorem test_crc_check_value :
    Frames.crc16 [0x31, 0x32, 0x33, 0x34, 0x35, 0x36, 0x37, 0x38, 0x39] = 0x29B1 := by decide +kernel

theorem test_valid_frame_queues :
    ((after (.validFrame .p3 [7, 0x20, 0, 1, 15]) State.reset).ports.p3.queue = [⟨7, 0x20, [0, 1, 15]⟩]) ∧
      (after (.validFrame .p3 [7, 0x20, 0, 1, 15]) State.reset).portPresent .p3 = true := by decide +kernel

theorem test_discarded_frame_counts :
    (after (.discardedFrame .p1 [⟨0xC5, false⟩, ⟨1, false⟩]) ready).ports.p1.frameErrors = ⟨1, false⟩ := by
  decide +kernel

/-- The frame left more than 2 ms ago is discarded and the new one is taken; left 2 ms ago it swallows the new one. -/
theorem test_a_frame_after_a_gap_is_taken :
    ((after (.validFrame .p1 [7, 1]) (leftInFrame ready .p1 3)).ports.p1.queue = [⟨7, 1, []⟩] ∧
      (after (.validFrame .p1 [7, 1]) (leftInFrame ready .p1 3)).ports.p1.frameErrors = ⟨1, false⟩) ∧
      (after (.validFrame .p1 [7, 1]) (leftInFrame ready .p1 2)).ports.p1.queue = [] := by decide +kernel

theorem test_frame_sent_frees_the_line :
    (after (.frameSent .p0) { ready with ports := { ready.ports with
        p0 := { ready.ports.p0 with sending := some ⟨.response, [7]⟩, response := some ⟨.response, [8]⟩ } } }).ports.p0.sending
      = some ⟨.response, [8]⟩ := by decide +kernel

/-! ### The axis, the detector and the list (the examples of sections 1.10, 2.9 and 3) -/

/-- The scaler of section 1.10: B = 2, P = 1 at axis 1,005 with g = 2 is where pulse 2 leaves it. -/
theorem test_forward_pulse_adds_the_extension :
    (after (.pulse .high) { ready with axis := ⟨1002, 1, .forward⟩ }).axis = ⟨1005, 2, .forward⟩ := by decide +kernel

theorem test_reverse_pulse_takes_it_back :
    (after (.pulse .low) { ready with axis := ⟨1005, 2, .reverse⟩ }).axis = ⟨1002, 1, .reverse⟩ := by decide +kernel

theorem test_active_edge_opens_a_candidate :
    (after .activeEdge { ready with axis := ⟨10000, 0, .forward⟩ }).detector = ⟨true, some 10000, none, 0, 0⟩ := by
  decide +kernel

/-- Step 2 of section 2.9: the centre is 18,524. -/
theorem test_inactive_edge_appends_an_entry :
    ((after .inactiveEdge
        { ready with
          axis := ⟨10248, 0, .forward⟩
          detector := ⟨true, some 10000, none, 0, 0⟩
          pins := { ready.pins with sdet := .high } }).list.entries.map fun e => (e.seq, e.position, e.width)) =
      [(1, 18524, 248)] := by decide +kernel

theorem test_axis_preset :
    answer (.axisPreset .p0) (given ready .p0 0x37 [0, 0, 0x4E, 0x20]) .p0 = [7, 0xB7, 0, 0, 0, 0x4E, 0x20, 0, 0] ∧
      (after (.axisPreset .p0) (given ready .p0 0x37 [0, 0, 0x4E, 0x20])).axis = ⟨20000, 0, .forward⟩ := by
  decide +kernel

/-- A candidate made at 5,000 waits for the preset, and is offered with that centre after it (row 2 of R13). -/
theorem test_waiting_candidate_keeps_its_centre :
    let s := given { ready with detector := ⟨true, none, some ⟨5000, 0⟩, 0, 0⟩ } .p0 0x37 [0, 0, 0x4E, 0x20]
    (after (.axisPreset .p0) s).axis.axis = 20000 ∧ (after (.axisPreset .p0) s).detector = ⟨true, none, none, 1, 0⟩ ∧
      ((after (.axisPreset .p0) s).list.entries.map Entry.position) = [5000] := by decide +kernel

theorem test_read_entry :
    answer (.readEntry .p0) (given standing .p0 0x06 [0, 1]) .p0 =
      [7, 0x86, 0, 0, 1, 0, 0, 0, 0, 0, 0, 250, 0x11, 0x01, 22, 18, 0, 2, 1, 0, 1, 0, 1, 0, 1, 0] := by decide +kernel

theorem test_read_register :
    answer (.readRegister .p0) (given standing .p0 0x07 [1, 4]) .p0 = [7, 0x87, 0, 1] := by decide +kernel

/-- The needs 1, 2, 3 and 9 of a bearer are taken as 2, 2, 3 and 3, and the lift left 210 as 200. -/
theorem test_annotate_takes_legal_values :
    answer (.annotate .p0)
        (given standing .p0 0x10 [0, 1, 1, 1, 2, 3, 9, 0, 1, 2, 0x1F, 1, 210, 5, 0xFF, 0x00]) .p0 =
      [7, 0x90, 1, 0, 1, 0, 0, 0, 0, 0, 0, 250, 0x11, 0x11, 200, 5, 0xFF, 0x6A, 0x02, 0, 0x12, 0, 0x23, 0, 0xF3, 0] := by
  decide +kernel

theorem test_place_adjusts_the_width :
    answer (.place .p0) (given standing .p0 0x11 [0, 0, 4, 0, 3, 0]) .p0 = [7, 0x91, 1, 0, 3, 1] := by decide +kernel

theorem test_strike :
    answer (.strike .p0) (given standing .p0 0x12 [0, 1]) .p0 = [7, 0x92, 0, 0, 1] ∧
      ((after (.strike .p0) (given standing .p0 0x12 [0, 1])).passages.records.map PassageRecord.outcome) = [.struck] := by
  decide +kernel

theorem test_take_passages :
    answer (.takePassages .p0) (given ready .p0 0x13 [1]) .p0 = [7, 0x93, 0, 0, 0, 0, 0, 0, 0] := by decide +kernel

theorem test_read_passages :
    answer (.readPassages .p0) (given ready .p0 0x08 [5]) .p0 = [7, 0x88, 0x11] := by decide +kernel

theorem test_flush :
    answer (.flush .p0) (given standing .p0 0x36 []) .p0 = [7, 0xB6, 0, 1] ∧
      (after (.flush .p0) (given standing .p0 0x36 [])).list.entries = [] := by decide +kernel

/-! ### Lanes -/

theorem test_tdn_line_starts_the_measure :
    (after (.tdnLineChange .a .high) (working (.claimed 1) 0)).lanes.a.debounce = some 0 := by decide +kernel

/-- Lane A with a running measure and its line at this level. -/
def measured (st : LaneState) (n : Nat) (level : Level) : State :=
  { working st n with
    pins := { (working st n).pins with tdn := { (working st n).pins.tdn with a := level } }
    lanes := { (working st n).lanes with a := { (working st n).lanes.a with debounce := some 8 } } }

theorem test_assertion_with_permit_is_a_descent :
    (after (.assertion .a) (measured (.claimed 1) 0 .high)).lanes.a.state = .down 1 0 := by decide +kernel

theorem test_assertion_in_idle_freezes :
    (after (.assertion .a) (measured .idle 0 .high)).freeze =
      ⟨.frozen, .unpermittedDescent, .lane .a, 0, none, 0, none⟩ := by decide +kernel

theorem test_release_counts_the_squeeze :
    (after (.release .a) (measured (.down 1 5) 0 .low)).lanes.a.state = .claimed 1 ∧
      (after (.release .a) (measured (.down 1 5) 0 .low)).lanes.a.squeezes = 1 := by decide +kernel

theorem test_down_timer_faults_the_lane :
    (after (.downTimerExpiry .a) (working (.down 1 3000) 0)).lanes.a.fault =
      some ⟨.downTooLong, some 1, 0, 3000, 0⟩ := by decide +kernel

theorem test_claim :
    answer (.claim .p1) (given standing .p1 0x20 [0, 1, 0]) .p1 = [7, 0xA0, 0, 0, 1, 1, 0, 0, 0, 0, 0, 0, 0] ∧
      (after (.claim .p1) (given standing .p1 0x20 [0, 1, 0])).lanes.a.state = .claimed 1 := by decide +kernel

theorem test_finish :
    answer (.finish .p1) (given (working (.claimed 1) 1) .p1 0x21 []) .p1 = [7, 0xA1, 0, 0, 1, 1] ∧
      (after (.finish .p1) (given (working (.claimed 1) 1) .p1 0x21 [])).pins.dpm.a = false := by decide +kernel

theorem test_waive :
    answer (.waive .p1) (given (working (.claimed 1) 1) .p1 0x22 [0, 1]) .p1 = [7, 0xA2, 0, 0, 1] := by decide +kernel

theorem test_adopt :
    answer (.adopt .p1) (given (working (.orphaned 1) 1) .p1 0x23 []) .p1 =
        [7, 0xA3, 0, 0, 1, 1, 0, 1, 0, 2, 1, 0, 1] ∧
      (after (.adopt .p1) (given (working (.orphaned 1) 1) .p1 0x23 [])).pins.dpm.a = true := by decide +kernel

theorem test_clear_lane :
    answer (.clearLane .p0) (given (working (.orphaned 1) 1) .p0 0x24 [0]) .p0 = [7, 0xA4, 0, 0, 4] := by decide +kernel

theorem test_read_fault :
    answer (.readFault .p0) (given ready .p0 0x0B [2]) .p0 =
      [7, 0x8B, 0, 2, 1, 0, 0, 0, 0, 0, 0, 0, 0, 0, 0, 0, 0] := by decide +kernel

/-! ### The hold and motion -/

theorem test_hold_take :
    answer (.holdTake .p0) (given standing .p0 0x14 [0, 1]) .p0 =
      [7, 0x94, 0, 0, 1, 22, 18, 0, 2, 0, 1, 1, 1, 1, 0] := by decide +kernel

theorem test_hold_set :
    (after (.holdSet .p0) (given { standing with hold := .lifting 1 ⟨22, 18, 2⟩ 4 } .p0 0x15 [])).hold =
      .held 1 ⟨22, 18, 2⟩ (some 0) := by decide +kernel

theorem test_hold_drop_without_force_finds_the_claim :
    answer (.holdDrop .p0) (given (working (.claimed 1) 1) .p0 0x16 [0]) .p0 = [7, 0x96, 31] := by decide +kernel

theorem test_hold_drop_with_force :
    answer (.holdDrop .p0) (given (working (.claimed 1) 1) .p0 0x16 [1]) .p0 = [7, 0x96, 0, 0, 1, 1] := by decide +kernel

theorem test_hold_clear :
    (after (.holdClear .p0) (given { standing with hold := .opening 1 ⟨22, 18, 2⟩ } .p0 0x17 [])).hold = .free := by
  decide +kernel

theorem test_lift_timer_opens :
    (after .liftTimerExpiry { standing with hold := .lifting 1 ⟨22, 18, 2⟩ 6000 }).hold = .opening 1 ⟨22, 18, 2⟩ := by
  decide +kernel

/-- Below the limit as it stands the lift timer does not expire (R99, R108). -/
theorem test_lift_timer_below_its_limit :
    (after .liftTimerExpiry { standing with hold := .lifting 1 ⟨22, 18, 2⟩ 5999 }).hold =
      .lifting 1 ⟨22, 18, 2⟩ 5999 := by decide +kernel

theorem test_overdue_timer_marks_the_entry :
    ((after .overdueTimerExpiry { standing with hold := .held 1 ⟨22, 18, 2⟩ (some 30000) }).list.entries.map
      Entry.overdue) = [true] := by decide +kernel

theorem test_move :
    answer (.move .p5) (given ready .p5 0x28 [2, 0x8A]) .p5 = [7, 0xA8, 0, 0, 0, 0, 0, 2, 0x8A, 0] ∧
      (after (.move .p5) (given ready .p5 0x28 [2, 0x8A])).pins.movok = true := by decide +kernel

theorem test_stop :
    answer (.stop .p5) (given { ready with motion := ⟨.granted 0 9, 0⟩ } .p5 0x29 []) .p5 = [7, 0xA9, 0, 1, 0, 0, 0, 0] := by
  decide +kernel

/-! ### Freeze and thaw -/

theorem test_freeze :
    answer (.freeze .p0) (given ready .p0 0x0C [0x3C]) .p0 = [7, 0x8C, 0, 0, 3] ∧
      (after (.freeze .p0) (given ready .p0 0x0C [0x3C])).pins.frzout = true := by decide +kernel

theorem test_thaw :
    answer (.thaw .p0) (given { ready with freeze := State.reset.freeze } .p0 0x32 []) .p0 = [7, 0xB2, 0, 0, 1, 0] := by
  decide +kernel

theorem test_frzin_freezes_once :
    (after .frzinAssertion ready).freeze.cause = .line ∧ (after .frzinAssertion ready).freeze.source = .frzin := by
  decide +kernel

theorem test_frzin_release_changes_the_level :
    (after .frzinRelease { ready with pins := { ready.pins with frzin := .low } }) = ready := by decide +kernel

/-! ### Ports, events and reads -/

theorem test_presence_loss_orphans_the_lane :
    (after (.presenceTimerExpiry .p1) (silent (working (.claimed 1) 0) .p1 300)).lanes.a.state = .orphaned 1 ∧
      (after (.presenceTimerExpiry .p1) (silent (working (.claimed 1) 0) .p1 300)).pins.dpm.a = false := by decide +kernel

/-- A frame that is taken before the expiry restarts the timer, and no loss happens (R92, R137). -/
theorem test_a_frame_first_leaves_no_loss :
    (after (.presenceTimerExpiry .p1) (after (.validFrame .p1 [7, 1]) (silent ready .p1 300))).portPresent .p1 = true := by
  decide +kernel

theorem test_unknown_code : answer (.unknownCode .p0) (given ready .p0 0x7F [0]) .p0 = [7, 0xFF, 0x11] := by
  decide +kernel

theorem test_present :
    answer (.present .p0) (given ready .p0 0x01 []) .p0 = [7, 0x81, 0, 0, 1, 7, 2, 30] := by decide +kernel

theorem test_key : answer (.key .p0) (given ready .p0 0x0D [0]) .p0 = [7, 0x8D, 0x14] := by decide +kernel

theorem test_read_state :
    (answer (.readState .p0) (given standing .p0 0x02 []) .p0).take 18 =
        [7, 0x82, 0, 0, 1, 0, 0, 0, 0, 0, 0, 0, 0, 0, 1, 1, 1, 1] ∧
      (answer (.readState .p0) (given standing .p0 0x02 []) .p0).drop 26 =
        [0x20, 1, 0, 1, 0, 1, 0, 0, 1, 0, 0, 0, 0, 0, 0, 0, 0, 0, 0] := by decide +kernel

/-- Port P1 with ten events latched, one of them masked. -/
def eventful : State :=
  { ready with events := { ready.events with p1 := ⟨0x0203FF, 0x000002, 100, some 100⟩ } }

theorem test_read_events :
    answer (.readEvents .p1) (given eventful .p1 0x03 []) .p1 = [7, 0x83, 0, 2, 8, 1, 3, 4, 5, 6, 7, 8, 9] := by
  decide +kernel

theorem test_event_mask :
    answer (.eventMask .p1) (given eventful .p1 0x04 [0, 0, 3, 0, 0, 1]) .p1 = [7, 0x84, 0, 0, 0, 1, 10] := by
  decide +kernel

theorem test_status_interval :
    answer (.statusInterval .p1) (given eventful .p1 0x05 [1]) .p1 = [7, 0x85, 1, 2] := by decide +kernel

theorem test_status_frame :
    (answer (.statusTimerExpiry .p1) eventful .p1).take 3 = [0, 0x40, 0] ∧
      (answer (.statusTimerExpiry .p1) eventful .p1).drop 32 = [2, 8, 1, 3, 4, 5, 6, 7, 8, 9] := by decide +kernel

theorem test_read_counters :
    (answer (.readCounters .p0) (given standing .p0 0x09 []) .p0).length = 77 ∧
      (answer (.readCounters .p0) (given standing .p0 0x09 []) .p0).take 7 = [7, 0x89, 0, 0, 0, 0, 1] := by decide +kernel

theorem test_read_setting :
    answer (.readSetting .p0) (given ready .p0 0x0A [17]) .p0 = [7, 0x8A, 0, 17, 0, 0, 0, 2] := by decide +kernel

/-! ### Settings and resets -/

theorem test_set :
    answer (.set .p0) (given ready .p0 0x30 [17, 0, 0, 0, 9]) .p0 = [7, 0xB0, 0, 17, 0, 0, 0, 9] := by decide +kernel

theorem test_set_roles_conflict :
    answer (.setRoles .p0) (given ready .p0 0x31 [1, 7, 1, 6, 3, 6, 4, 6, 5, 6, 6, 6]) .p0 = [7, 0xB1, 0x22] := by
  decide +kernel

theorem test_save_waits_for_the_write :
    answer (.save .p0) (given ready .p0 0x33 []) .p0 = [] ∧
      ((after (.save .p0) (given ready .p0 0x33 [])).store.save.map SaveInFlight.tag) = some 7 := by decide +kernel

theorem test_save_write_complete :
    answer .saveWriteComplete { ready with store := { ready.store with save := some ⟨.p0, 7, ready.live, 0⟩ } } .p0 =
      [7, 0xB3, 0] := by decide +kernel

theorem test_reload_of_a_blank_image :
    answer (.reload .p0) (given ready .p0 0x34 []) .p0 = [7, 0xB4, 0, 1] := by decide +kernel

theorem test_restart : answer (.restart .p0) (given ready .p0 0x35 []) .p0 = [7, 0xB5, 0] := by decide +kernel

theorem test_restart_takes_effect :
    (after .restartTakesEffect { standing with restart := some ⟨.p0, true⟩ }).freeze.cause = .restart ∧
      (after .restartTakesEffect { standing with restart := some ⟨.p0, true⟩ }).list.entries = [] := by decide +kernel

theorem test_rstn_assertion :
    (after .rstnAssertion standing).pins.frzout = true ∧ (after .rstnAssertion standing).pins.rstn = .low := by
  decide +kernel

/-- State.reset is what a full reset leaves of itself. -/
theorem test_full_reset_gives_the_reset_state : after .fullReset State.reset = State.reset := by decide +kernel

/-! ### For every statement with hypotheses, states and operands that meet them -/

theorem witness_StepTakesTheFrontCommand :
    ({ ready with pending := [.activeEdge, .fullReset] } : State).pending = .activeEdge :: [.fullReset] :=
  rfl

/-- Both cases of RSTN. -/
theorem witness_EmptyQueueLetsOneMillisecondPass :
    (ready.pending = [] ∧ ready.inReset = false) ∧
    (after .rstnAssertion ready).pending = [] ∧
    (after .rstnAssertion ready).inReset = true := by
  decide +kernel

/-- The shortest and the longest body. -/
theorem witness_WireFrameIsReceivedWhole :
    (2 ≤ [(7 : Byte), 1].length ∧ [(7 : Byte), 1].length ≤ 96) ∧
    (2 ≤ (List.replicate 96 (0xC5 : Byte)).length ∧ (List.replicate 96 (0xC5 : Byte)).length ≤ 96) := by
  decide +kernel

/-- Port P0's queue holds 4 frames. -/
def crowded : State :=
  { ready with ports := { ready.ports with p0 := { ready.ports.p0 with queue := List.replicate 4 ⟨7, 1, []⟩ } } }

/-- An ABSENT port, a PRESENT port with room, a port whose queue holds 4 frames, and a port left in frame. -/
theorem witness_ValidFrameRefreshesAndQueues :
    (State.reset.inReset = false ∧ (State.reset.ports.get .p0).rx = .hunting ∧ State.reset.portPresent .p0 = false) ∧
    (ready.inReset = false ∧ (ready.ports.get .p0).rx = .hunting ∧ ready.portPresent .p0 = true) ∧
    ((ready.ports.get .p0).queue.length < 4 ∧ (crowded.ports.get .p0).queue.length = 4) ∧
    (crowded.inReset = false ∧ (crowded.ports.get .p0).rx = .hunting) ∧
    ((leftInFrame ready .p1 3).inReset = false ∧ ((leftInFrame ready .p1 3).ports.get .p1).rx = .inFrame [3] 3 ∧ 2 < 3) ∧
    (2 ≤ [(7 : Byte), 1].length ∧ [(7 : Byte), 1].length ≤ 96) := by
  decide +kernel

/-- A length below, above and at the bounds, a gap, a CRC that does not agree, and bytes that complete no frame. -/
theorem witness_FramesAreDiscardedByRule :
    ((1 : Byte).toNat < 2 ∧ 96 < (97 : Byte).toNat) ∧
    ((0 : Byte) ++ (0 : Byte) : BitVec 16) ≠ Frames.crc16 ((2 : Byte) :: [1, 1]) ∧
    (2 ≤ (2 : Byte).toNat ∧ (2 : Byte).toNat ≤ 96 ∧ [(1 : Byte), 1].length = (2 : Byte).toNat) ∧
    (ready.inReset = false ∧ (Frames.receiveAll (ready.ports.get .p0).rx [⟨0xC5, false⟩, ⟨1, false⟩]).2 = [.nothing, .discarded]) ∧
    (∀ body, RxEvent.valid body ∉ [RxEvent.nothing, .discarded]) ∧
    ((⟨0xC5, true⟩ : RxByte).lateGap = true ∧ 2 < 3 ∧ (2 : Nat) ≤ 2) ∧
    (2 ≤ (96 : Byte).toNat ∧ (96 : Byte).toNat ≤ 96 ∧ [(1 : Byte)].length + 1 < (96 : Byte).toNat + 2) :=
  ⟨by decide +kernel, by decide +kernel, by decide +kernel, by decide +kernel, by simp, by decide +kernel⟩

/-- A port that sends a frame, with this response and this status frame waiting. -/
def sendingWith (response status : Option TxFrame) : State :=
  { ready with
    events := .replicate ⟨0, 0, 100, some 100⟩
    ports := { ready.ports with
      p0 := { ready.ports.p0 with sending := some ⟨.response, [7]⟩, response := response, status := status } } }

/-- Nothing waits, a response waits, a status frame waits, or both. -/
theorem witness_FrameSentFreesTheLine :
    ((sendingWith none none).inReset = false ∧ ((sendingWith none none).ports.get .p0).sending = some ⟨.response, [7]⟩) ∧
    (((sendingWith (some ⟨.response, [8]⟩) none).ports.get .p0).status = none) ∧
    (((sendingWith none (some ⟨.statusFrame, [9]⟩)).ports.get .p0).response = none) ∧
    (((sendingWith (some ⟨.response, [8]⟩) (some ⟨.statusFrame, [9]⟩)).ports.get .p0).sending ≠ none) := by
  decide +kernel

/-- A grant of 650 mm stands from axis 0. -/
def granted : State := ({ ready with motion := ⟨.granted 0 650, 0⟩ } : State).settle

/-- Port p of this state has reached the presence interval, not a millisecond more. -/
theorem silent_reaches (s : State) (p : Port) (h : s.live.presenceInterval = 300) :
    ((silent s p 300).ports.get p).presence = .present 300 ∧ (silent s p 300).live.presenceInterval ≤ (300 : Nat) :=
  ⟨by cases p <;> rfl, by rw [show (silent s p 300).live = s.live from rfl, h]; decide⟩

/-- A UNIT port whose lane is CLAIMED or DOWN, GEOMETRY with a hold, TRAVEL with a grant, and a port with none of them. -/
theorem witness_PresenceLossReachesTheBlocks :
    (((silent (working (.claimed 1) 0) .p1 300).ports.get .p1).presence = .present 300 ∧
      (silent (working (.claimed 1) 0) .p1 300).live.presenceInterval ≤ (300 : Nat)) ∧
    ((silent (working (.claimed 1) 0) .p1 300).inReset = false ∧
      (silent (working (.claimed 1) 0) .p1 300).roleOf .p1 = .unit .a) ∧
    ((silent (working (.down 1 5) 0) .p1 300).inReset = false ∧
      ((silent (working (.down 1 5) 0) .p1 300).lane .a).state = .down 1 5) ∧
    ((silent (working .idle 0) .p0 300).roleOf .p0 = .geometry ∧ (silent (working .idle 0) .p0 300).hold.named? = some 1) ∧
    ((silent granted .p5 300).inReset = false ∧ (silent granted .p5 300).roleOf .p5 = .travel ∧
      (silent granted .p5 300).motion.state.isGranted = true) ∧
    (((silent ready .p2 300).ports.get .p2).presence = .present 300 ∧ (silent ready .p2 300).inReset = false) :=
  ⟨silent_reaches _ _ (by decide +kernel), by decide +kernel⟩

/-- A port whose response waits, a request of another code at the front, a known code at the front, and timers that
stop or lie below their limits. -/
theorem witness_CommandsWaitTheirTurn :
    (sendingWith (some ⟨.response, [8]⟩) none).mayTake .p0 = false ∧
    (Request.command? .p0 0x01 = some (.present .p0) ∧ (sendingWith (some ⟨.response, [8]⟩) none).detector.made = none) ∧
    ((given ready .p0 0x02 []).mayTake .p0 = true ∧
      ∀ r, ((given ready .p0 0x02 []).ports.get .p0).queue.head? = some r → r.code ≠ 0x01) ∧
    (∀ r, ((given ready .p0 0x02 []).ports.get .p0).queue.head? = some r → Request.length? r.code ≠ none) ∧
    (Flags.isTimerEnd .liftTimerExpiry = true ∧ ¬ ready.timerDue .liftTimerExpiry) ∧
    (Flags.isTimerEnd (.presenceTimerExpiry .p1) = true ∧ ¬ (silent ready .p1 299).timerDue (.presenceTimerExpiry .p1)) ∧
    (ready.quiescent = true ∧ (working (.claimed 1) 0).quiescent = false) := by
  refine ⟨by decide +kernel, by decide +kernel, ⟨by decide +kernel, ?_⟩, ?_, ⟨rfl, ?_⟩, ⟨rfl, ?_⟩, by decide +kernel⟩
  · intro r h
    obtain rfl : (⟨7, 0x02, []⟩ : Request) = r := Option.some.inj h
    decide
  · intro r h
    obtain rfl : (⟨7, 0x02, []⟩ : Request) = r := Option.some.inj h
    decide
  · rintro ⟨q, t, ms, h, -⟩
    cases h
  · rintro ⟨ms, h, hle⟩
    obtain rfl : 299 = ms := Presence.present.inj h
    exact absurd hle (by decide +kernel)

/-- A check that fails, and none. -/
theorem test_lowest_refusal :
    (Operands.lowestRefusal [(true, .frozen), (false, .malformed), (true, .noRight)] = some .noRight) ∧
    (Operands.lowestRefusal [(false, .malformed)] = none) := by
  decide +kernel

/-- KEY with the key and without it on a port with SETUP, KEY on a port without SETUP, and PRESENT. -/
theorem witness_KeyAndPresentAreAnswered :
    (given ready .p0 0x0D [0x6B]).hands .p0 ⟨7, 0x0D, [0x6B]⟩ 0x0D ∧
    ((given ready .p0 0x0D [0x6B]).portRole .p0).setup = true ∧
    (given ready .p0 0x0D [0]).hands .p0 ⟨7, 0x0D, [0]⟩ 0x0D ∧
    (0 : Byte) ≠ 0x6B ∧
    (given ready .p1 0x0D [0x6B]).hands .p1 ⟨7, 0x0D, [0x6B]⟩ 0x0D ∧
    ((given ready .p1 0x0D [0x6B]).portRole .p1).setup = false ∧
    (given ready .p5 0x01 []).hands .p5 ⟨7, 0x01, []⟩ 0x01 :=
  ⟨given_hands _ _ _ _ (by decide +kernel), by decide +kernel, given_hands _ _ _ _ (by decide +kernel),
    by decide +kernel, given_hands _ _ _ _ (by decide +kernel), by decide +kernel,
    given_hands _ _ _ _ (by decide +kernel)⟩

theorem witness_EventRequestsActOnTheirPort :
    (given eventful .p1 0x03 []).hands .p1 ⟨7, 0x03, []⟩ 0x03 ∧
    (given eventful .p1 0x04 [0, 0, 3, 0, 0, 1]).hands .p1 ⟨7, 0x04, [0, 0, 3, 0, 0, 1]⟩ 0x04 ∧
    (given eventful .p1 0x05 [1]).hands .p1 ⟨7, 0x05, [1]⟩ 0x05 ∧
    (given eventful .p1 0x05 [0]).hands .p1 ⟨7, 0x05, [0]⟩ 0x05 :=
  ⟨given_hands _ _ _ _ (by decide +kernel), given_hands _ _ _ _ (by decide +kernel),
    given_hands _ _ _ _ (by decide +kernel), given_hands _ _ _ _ (by decide +kernel)⟩

/-- A status frame that waits, and none. -/
theorem witness_StatusTimerFormsOneFrame :
    (eventful.inReset = false ∧ (eventful.events.get .p1).timer = some 100 ∧ (eventful.ports.get .p1).status = none) ∧
    ((sendingWith none (some ⟨.statusFrame, [9]⟩)).inReset = false ∧
      ((sendingWith none (some ⟨.statusFrame, [9]⟩)).events.get .p0).timer = some 100 ∧
      ((sendingWith none (some ⟨.statusFrame, [9]⟩)).ports.get .p0).status.isSome = true) ∧
    ((eventful.events.get .p1).interval ≤ (100 : Nat) ∧
      ((sendingWith none (some ⟨.statusFrame, [9]⟩)).events.get .p0).interval ≤ (100 : Nat)) := by
  decide +kernel

/-- An entry that is held and one that is not, and READ REGISTER. -/
theorem witness_EntriesAreRead :
    (given standing .p0 0x06 [0, 1]).hands .p0 ⟨7, 0x06, [0, 1]⟩ 0x06 ∧
    (given standing .p0 0x06 [0, 1]).entry? 1 = some (sleeper 1 0) ∧
    (given standing .p0 0x06 [0, 2]).hands .p0 ⟨7, 0x06, [0, 2]⟩ 0x06 ∧
    (given standing .p0 0x06 [0, 2]).entry? 2 = none ∧
    (given standing .p0 0x07 [0, 4]).hands .p0 ⟨7, 0x07, [0, 4]⟩ 0x07 :=
  ⟨given_hands _ _ _ _ (by decide +kernel), by decide +kernel, given_hands _ _ _ _ (by decide +kernel),
    by decide +kernel, given_hands _ _ _ _ (by decide +kernel)⟩

/-- Each read, a setting that exists and one that does not, and a lane code at and past the last. -/
theorem witness_StateAndRecordsAreRead :
    (given standing .p0 0x02 []).hands .p0 ⟨7, 0x02, []⟩ 0x02 ∧
    (given standing .p0 0x09 []).hands .p0 ⟨7, 0x09, []⟩ 0x09 ∧
    (given standing .p0 0x08 [4]).hands .p0 ⟨7, 0x08, [4]⟩ 0x08 ∧
    (given standing .p0 0x0A [17]).hands .p0 ⟨7, 0x0A, [17]⟩ 0x0A ∧
    (given standing .p0 0x0A [17]).live.read? (17 : Byte).toNat = some 2 ∧
    (given standing .p0 0x0A [37]).hands .p0 ⟨7, 0x0A, [37]⟩ 0x0A ∧
    (given standing .p0 0x0A [37]).live.read? (37 : Byte).toNat = none ∧
    (given standing .p0 0x0B [3]).hands .p0 ⟨7, 0x0B, [3]⟩ 0x0B ∧
    (3 : Byte).toNat = Lane.code .d ∧
    (given standing .p0 0x0B [4]).hands .p0 ⟨7, 0x0B, [4]⟩ 0x0B ∧
    3 < (4 : Byte).toNat :=
  ⟨given_hands _ _ _ _ (by decide +kernel), given_hands _ _ _ _ (by decide +kernel),
    given_hands _ _ _ _ (by decide +kernel), given_hands _ _ _ _ (by decide +kernel), by decide +kernel,
    given_hands _ _ _ _ (by decide +kernel), by decide +kernel, given_hands _ _ _ _ (by decide +kernel),
    by decide +kernel, given_hands _ _ _ _ (by decide +kernel), by decide +kernel⟩

/-- An entry, a record and lane records within the bounds of their fields. -/
theorem witness_LayoutsCarryTheirFields :
    (sleeper 1 0).seen ≤ 15 ∧ ((sleeper 1 0).passage .missed).seen ≤ 15 ∧
      ((sleeper 1 0).lanes.a.need ≤ 3 ∧ (claimedEntry 3).lanes.a.squeezes ≤ 3) ∧
      ((((claimedEntry 3).passage .missed).lanes.a).need ≤ 3 ∧ (((claimedEntry 3).passage .missed).lanes.a).squeezes ≤ 3) := by
  decide +kernel

/-- The axis stands at v. -/
def atLimit (v : Int) : State := { ready with axis := ⟨v, 0, .forward⟩ }

/-- A pulse inside the limit, at it, and past it, and one with each edge right behind it. -/
theorem witness_PulseMovesTheAxis :
    (ready.inReset = false ∧ ready.pending = [] ∧ (after (.pulse .high) ready).axis = ⟨2, 1, .forward⟩) ∧
    ((after (.pulse .high) (atLimit 2146999998)).axis.axis = 2147000000) ∧
    ((atLimit 2146999999).inReset = false ∧
      2147000000 < (atLimit 2146999999).axis.axis + (atLimit 2146999999).live.scalerBase) ∧
    ∀ edge ∈ [Instr.activeEdge, .inactiveEdge], ({ ready with pending := [edge] } : State).edgeBehind = true := by
  decide +kernel

/-- In HALT with this halt point, the hold FREE or not, RUN or FROZEN. -/
def halted (haltPoint : Int) (hold : HoldState) (freeze : FreezeState) : State :=
  { standing with motion := ⟨.halt, haltPoint⟩, hold := hold, freeze := { ready.freeze with state := freeze } }

/-- A pulse always runs, and `after` is the state it gives. -/
theorem pulse_gives (odb : Level) (s : State) : exec (.pulse odb) s = .next (after (.pulse odb) s) := rfl

/-- A grant that runs on and one that ends; in HALT a pulse within the creep tolerance of 25 mm, and one past it without a
load, under load in RUN and under load in FROZEN. Each pulse moves the axis from 0 to 2, or from 648 to 650. -/
theorem witness_PulseRunsTheGrantAndCreeps :
    (granted.inReset = false ∧ granted.motion.state = .granted 0 650 ∧ (after (.pulse .high) granted).axis.axis = 2) ∧
    (after (.pulse .high) { granted with axis := ⟨648, 0, .forward⟩ }).axis.axis = 650 ∧
    (∀ start ∈ [(-23 : Int), -24], ∀ hold ∈ [HoldState.free, .opening 1 ⟨0, 0, 0⟩], ∀ freeze ∈ [FreezeState.run, .frozen],
      (halted start hold freeze).inReset = false ∧ (halted start hold freeze).live.creepTolerance = 25 ∧
        (halted start hold freeze).axis.axis = 0 ∧ (halted start hold freeze).motion.state = .halt ∧
        (after (.pulse .high) (halted start hold freeze)).axis.axis = 2) := by
  decide +kernel

/-- An axis at the bound and one past it. -/
theorem witness_AxisPresetSetsTheAxis :
    (given ready .p0 0x37 [0x7F, 0xF8, 0xC4, 0xC0]).hands .p0 ⟨7, 0x37, [0x7F, 0xF8, 0xC4, 0xC0]⟩ 0x37 ∧
    Operands.signed4 0x7F 0xF8 0xC4 0xC0 = 2147009728 ∧
    (given ready .p0 0x37 [0, 0, 0x4E, 0x20]).hands .p0 ⟨7, 0x37, [0, 0, 0x4E, 0x20]⟩ 0x37 ∧
    Operands.signed4 0 0 0x4E 0x20 = 20000 ∧ (given ready .p0 0x37 [0, 0, 0x4E, 0x20]).detector.made = none :=
  ⟨given_hands _ _ _ _ (by decide +kernel), by decide +kernel, given_hands _ _ _ _ (by decide +kernel),
    by decide +kernel⟩

/-- An AXIS PRESET is the next command, and its request is at the front of port P0's queue. -/
def meeting : State := { given ready .p0 0x37 [0, 0, 0x4E, 0x20] with pending := [.axisPreset .p0] }

/-- The list is full: 48 entries 600 mm apart, the tail at 28,200. -/
def full : State := holding ((List.range 48).map fun i => sleeper (BitVec.ofNat 16 (i + 1)) (600 * i))

/-- The line SDET is active. -/
def overSleeper : State := { ready with pins := { ready.pins with sdet := .high } }

/-- A candidate waits for the AXIS PRESET that is the next command. -/
def waiting : State := { meeting with detector := ⟨true, none, some ⟨5000, 0⟩, 0, 0⟩ }

/-- Forty-eight entries, the head of them due at the axis, and a detector far ahead in LEADING mode: the next candidate lies
beyond the tail. -/
def fullAndDue : State :=
  { full with
    axis := ⟨1801, 0, .forward⟩
    store := { full.store with live := { full.live with edgeMode := .leading, detectorLead := 30000 } } }

/-- The axis change that makes the head due waits for the edge that is the next command. -/
def changeWaiting : State :=
  { fullAndDue with list := { fullAndDue.list with changeWaits := true }, pending := [.activeEdge] }

/-- Row 4 of R31, the offer first: the candidate is lost and sets the pending gap, then the head retires. -/
theorem test_offer_before_the_retirement :
    ((after .activeEdge changeWaiting).list.entries.map Entry.seq).head? = some 2 ∧
      (after .activeEdge changeWaiting).list.entries.length = 47 ∧
      (after .activeEdge changeWaiting).list.pendingGap = true ∧
      (after .activeEdge changeWaiting).list.changeWaits = false := by decide +kernel

/-- Row 4 of R31, the retirement first: the candidate is appended with no gap mark. -/
theorem test_retirement_before_the_offer :
    (after .activeEdge fullAndDue.retire).list.entries.length = 48 ∧
      ((after .activeEdge fullAndDue.retire).list.entries.getLast?.map fun e => (e.position, e.gap)) =
        some (31931, false) := by decide +kernel

/-- An inactive and an active line, an AXIS PRESET that arrives together with an edge and none, a candidate that waits, and
an axis change that waits. -/
theorem witness_EdgesMakeCandidates :
    (ready.inReset = false ∧ ready.list.changeWaits = false ∧ ready.sdetLineActive = false) ∧
    (overSleeper.inReset = false ∧ overSleeper.list.changeWaits = false ∧ overSleeper.sdetLineActive = true) ∧
    (meeting.pending = .axisPreset .p0 :: [] ∧ meeting.hands .p0 ⟨7, 0x37, [0, 0, 0x4E, 0x20]⟩ 0x37) ∧
    (ready.pending = [] ∧ waiting.inReset = false ∧ waiting.detector.made = some ⟨5000, 0⟩) ∧
    (changeWaiting.inReset = false ∧ changeWaiting.list.changeWaits = true) :=
  ⟨by decide +kernel, by decide +kernel, ⟨rfl, by decide +kernel, rfl, rfl⟩, by decide +kernel⟩

/-- A match with the nearest entry, a rejection at the tail, a full list, and an append. -/
theorem witness_OfferIsDecided :
    standing.listOrdered ∧ full.listOrdered ∧
    (∀ e ∈ standing.list.entries, e.position - 120 ≤ standing.live.captureWindow ∧
      120 - e.position ≤ standing.live.captureWindow) ∧
    (∀ e ∈ standing.list.entries, ¬ (e.position - 449 ≤ standing.live.captureWindow ∧
      449 - e.position ≤ standing.live.captureWindow)) ∧
    (449 : Int) - 0 < standing.live.minimumSpacing ∧
    (∀ e ∈ standing.list.entries, ¬ (e.position - 450 ≤ standing.live.captureWindow ∧
      450 - e.position ≤ standing.live.captureWindow)) ∧
    ¬ ((450 : Int) - 0 < standing.live.minimumSpacing) ∧ standing.list.entries.length < 48 ∧
    (∀ e ∈ full.list.entries, ¬ (e.position - 28650 ≤ full.live.captureWindow ∧
      28650 - e.position ≤ full.live.captureWindow)) ∧
    full.list.entries.length = 48 := by
  unfold State.listOrdered
  decide +kernel

/-- A head that retires, a due head that is held back, a Passage List that overflows, and the outcomes. -/
theorem witness_RetirementTakesDueEntries :
    standing.passages.records.length ≤ 32 ∧
    ({ standing with axis := ⟨1801, 0, .forward⟩ } : State).retire.list.entries = [] ∧
    (({ working (.claimed 1) 0 with axis := ⟨1801, 0, .forward⟩ } : State).retire.list.entries.map Entry.deferred) =
      [true] ∧
    (({ standing with
        axis := ⟨1801, 0, .forward⟩
        passages := ⟨List.replicate 32 ((sleeper 9 0).passage .missed), 0, 0⟩ } : State).retire.passages.discarded) = 1 ∧
    standing.outcome (sleeper 1 0) = .missed ∧
    standing.outcome { sleeper 1 0 with lanes := .replicate ⟨1, 0, .failed, 0⟩ } = .failed ∧
    standing.outcome { sleeper 1 0 with lanes := .replicate ⟨1, 0, .waived, 0⟩ } = .waived ∧
    standing.outcome { sleeper 1 0 with lanes := .replicate ⟨1, 0, .worked, 1⟩ } = .complete := by
  decide +kernel

/-- An entry that is held and one that is not, with a selector at each end of its set. -/
theorem witness_AnnotateWritesTheValuesTaken :
    (given standing .p0 0x10 [0, 1, 1, 1, 2, 3, 9, 0, 1, 2, 0x1F, 1, 210, 5, 0xFF, 0x00]).hands .p0 ⟨7, 0x10, [0, 1, 1, 1, 2, 3, 9, 0, 1, 2, 0x1F, 1, 210, 5, 0xFF, 0x00]⟩ 0x10 ∧
    (given standing .p0 0x10 [0, 1, 1, 1, 2, 3, 9, 0, 1, 2, 0x1F, 1, 210, 5, 0xFF, 0x00]).entry? 1 = some (sleeper 1 0) ∧
    (1 : Byte).toNat = Kind.code .bearer ∧
    (given standing .p0 0x10 [0, 2, 0, 1, 2, 3, 9, 0, 1, 2, 0x1F, 2, 210, 5, 0xFF, 0x00]).hands .p0 ⟨7, 0x10, [0, 2, 0, 1, 2, 3, 9, 0, 1, 2, 0x1F, 2, 210, 5, 0xFF, 0x00]⟩ 0x10 ∧
    (given standing .p0 0x10 [0, 2, 0, 1, 2, 3, 9, 0, 1, 2, 0x1F, 2, 210, 5, 0xFF, 0x00]).entry? 2 = none ∧
    ((0 : Byte).toNat = Kind.code .plain ∧ (2 : Byte).toNat ≤ 2) :=
  ⟨given_hands _ _ _ _ (by decide +kernel), by decide +kernel, by decide +kernel,
    given_hands _ _ _ _ (by decide +kernel), by decide +kernel⟩

theorem witness_PlaceCreatesAnEntry :
    (given standing .p0 0x11 [0, 0, 4, 0, 3, 0]).hands .p0 ⟨7, 0x11, [0, 0, 4, 0, 3, 0]⟩ 0x11 ∧
    (given standing .p0 0x11 [0, 0, 4, 0, 3, 0]).listOrdered ∧
    1 ≤ (given standing .p0 0x11 [0, 0, 4, 0, 3, 0]).live.minimumSpacing := by
  refine ⟨given_hands _ _ _ _ (by decide +kernel), ?_, by decide +kernel⟩
  unfold State.listOrdered
  decide +kernel

theorem witness_StrikeDepartsTheEntry :
    (given standing .p0 0x12 [0, 1]).hands .p0 ⟨7, 0x12, [0, 1]⟩ 0x12 ∧
    (given standing .p0 0x12 [0, 1]).entry? 1 = some (sleeper 1 0) ∧
    (given standing .p0 0x12 [0, 2]).hands .p0 ⟨7, 0x12, [0, 2]⟩ 0x12 ∧
    (given standing .p0 0x12 [0, 2]).entry? 2 = none :=
  ⟨given_hands _ _ _ _ (by decide +kernel), by decide +kernel, given_hands _ _ _ _ (by decide +kernel),
    by decide +kernel⟩

theorem witness_TakePassagesAndFlushRemove :
    (given standing .p0 0x13 [4]).hands .p0 ⟨7, 0x13, [4]⟩ 0x13 ∧
    (given standing .p0 0x36 []).hands .p0 ⟨7, 0x36, []⟩ 0x36 :=
  ⟨given_hands _ _ _ _ (by decide +kernel), given_hands _ _ _ _ (by decide +kernel)⟩

/-- Every lane state that can take an assertion, at 0, 2 and 3 squeezes; CLAIMED with the permit at 2 and at 3, and
without it. -/
theorem witness_AssertionByLaneState :
    (∀ st ∈ [LaneState.off, .idle, .orphaned 1, .claimed 1, .fault], ∀ n ∈ [0, 2, 3],
      (measured st n .high).inReset = false ∧ ((measured st n .high).lane .a).state = st ∧
        ((measured st n .high).lane .a).debounce = some 8 ∧ (measured st n .high).live.tdnDebounce ≤ (8 : Nat) ∧
        (measured st n .high).tdnLineActive .a = true ∧ ((measured st n .high).lane .a).tdnActive = false) ∧
    (∀ n ∈ [2, 3], (measured (.claimed 1) n .high).permit .a = true ∧
      (measured (.claimed 1) n .high).squeezesDone 1 .a = n) ∧
    ({ measured (.claimed 1) 0 .high with hold := .opening 1 ⟨0, 0, 0⟩ } : State).permit .a = false := by
  decide +kernel

/-- Lane A in this state with its tines down, whose line has gone inactive. -/
def tinesDown (st : LaneState) : State :=
  let s := measured st 0 .low
  { s with lanes := { s.lanes with a := { s.lanes.a with tdnActive := true } } }

/-- A line that does not change and one that does; a release in DOWN, ORPHANED, FAULT and OFF. -/
theorem witness_TdnLineAndReleaseAreTaken :
    (ready.pins.tdn.get .a = .low ∧ ready.inReset = false ∧ ready.pins.tdn.get .a ≠ .high) ∧
    (∀ st ∈ [LaneState.down 1 5, .orphaned 1, .fault, .off],
      (tinesDown st).inReset = false ∧ ((tinesDown st).lane .a).debounce = some 8 ∧
        (tinesDown st).live.tdnDebounce ≤ (8 : Nat) ∧ (tinesDown st).tdnLineActive .a = false ∧
        ((tinesDown st).lane .a).tdnActive = true ∧ ((tinesDown st).lane .a).state = st) := by
  decide +kernel

/-- Entry 1 is due, and lane A is DOWN on it. -/
def dueAndClaimed : State := { working (.down 1 3000) 0 with axis := ⟨20000, 0, .forward⟩, hold := .free }

/-- A down timer at its limit, a lane fault under a grant, and one whose retry makes an entry depart. -/
theorem witness_LaneFaultEndsTheClaim :
    ((working (.down 1 3000) 0).inReset = false ∧ ((working (.down 1 3000) 0).lane .a).state = .down 1 3000 ∧
      (working (.down 1 3000) 0).live.downLimit ≤ (3000 : Nat)) ∧
    (granted.motion.state.isGranted = true ∧ Event.moveEnded.targets .p5 (granted.portRole .p5) = true) ∧
    ((dueAndClaimed.faultLane .a .downTooLong 3000).hasLatched .p0 .entryDeparted ∧
      (dueAndClaimed.faultLane .a .downTooLong 3000).hasLatched .p1 (.laneFault .a) ∧
      ¬ (dueAndClaimed.faultLane .a .downTooLong 3000).hasLatched .p2 (.laneFault .a) ∧
      ¬ (dueAndClaimed.faultLane .a .downTooLong 3000).hasLatched .p5 .moveEnded) := by
  unfold State.hasLatched
  decide +kernel

theorem witness_ClaimNamesTheEntry :
    (given standing .p1 0x20 [0, 1, 15]).hands .p1 ⟨7, 0x20, [0, 1, 15]⟩ 0x20 ∧
    ((given standing .p1 0x20 [0, 1, 15]).roleOf .p1 = .unit .a ∧ (given standing .p1 0x20 [0, 1, 15]).entry? 1 = some (sleeper 1 0)) ∧
    (given standing .p1 0x20 [0, 2, 16]).hands .p1 ⟨7, 0x20, [0, 2, 16]⟩ 0x20 ∧
    ((given standing .p1 0x20 [0, 2, 16]).roleOf .p1 = .unit .a ∧ (given standing .p1 0x20 [0, 2, 16]).entry? 2 = none) :=
  ⟨given_hands _ _ _ _ (by decide +kernel), by decide +kernel, given_hands _ _ _ _ (by decide +kernel),
    by decide +kernel⟩

/-- FINISH in CLAIMED, DOWN and IDLE; WAIVE on the claimed entry, from IDLE, and on an entry not held. -/
theorem witness_FinishAndWaiveEndTheClaim :
    (given (working (.claimed 1) 1) .p1 0x21 []).hands .p1 ⟨7, 0x21, []⟩ 0x21 ∧
    ((given (working (.claimed 1) 1) .p1 0x21 []).roleOf .p1 = .unit .a ∧ (given (working (.claimed 1) 1) .p1 0x21 []).entry? 1 = some (claimedEntry 1) ∧ ((given (working (.claimed 1) 1) .p1 0x21 []).lane .a).state = .claimed 1) ∧
    (given (working (.down 1 5) 1) .p1 0x21 []).hands .p1 ⟨7, 0x21, []⟩ 0x21 ∧
    (given ready .p1 0x21 []).hands .p1 ⟨7, 0x21, []⟩ 0x21 ∧
    ((given ready .p1 0x21 []).lane .a).state = .idle ∧
    (given (working (.claimed 1) 1) .p1 0x22 [0, 1]).hands .p1 ⟨7, 0x22, [0, 1]⟩ 0x22 ∧
    (given (working (.claimed 1) 1) .p1 0x22 [0, 1]).entry? 1 = some (claimedEntry 1) ∧
    (given standing .p1 0x22 [0, 1]).hands .p1 ⟨7, 0x22, [0, 1]⟩ 0x22 ∧
    (given standing .p1 0x22 [0, 1]).entry? 1 = some (sleeper 1 0) ∧
    (given standing .p1 0x22 [0, 2]).hands .p1 ⟨7, 0x22, [0, 2]⟩ 0x22 ∧
    (given standing .p1 0x22 [0, 2]).entry? 2 = none :=
  ⟨given_hands _ _ _ _ (by decide +kernel), by decide +kernel, given_hands _ _ _ _ (by decide +kernel),
    given_hands _ _ _ _ (by decide +kernel), by decide +kernel, given_hands _ _ _ _ (by decide +kernel),
    by decide +kernel, given_hands _ _ _ _ (by decide +kernel), by decide +kernel,
    given_hands _ _ _ _ (by decide +kernel), by decide +kernel⟩

/-- ADOPT in ORPHANED and not; CLEAR LANE barred, not clearable, and cleared; lane D. -/
theorem witness_AdoptAndClearLaneComeBack :
    (given (working (.orphaned 1) 1) .p1 0x23 []).hands .p1 ⟨7, 0x23, []⟩ 0x23 ∧
    ((given (working (.orphaned 1) 1) .p1 0x23 []).roleOf .p1 = .unit .a ∧ ((given (working (.orphaned 1) 1) .p1 0x23 []).lane .a).state = .orphaned 1 ∧ (given (working (.orphaned 1) 1) .p1 0x23 []).entry? 1 = some (claimedEntry 1)) ∧
    (given ready .p1 0x23 []).hands .p1 ⟨7, 0x23, []⟩ 0x23 ∧
    ((given ready .p1 0x23 []).lane .a).state = .idle ∧
    (given (working (.orphaned 1) 1) .p1 0x24 [0]).hands .p1 ⟨7, 0x24, [0]⟩ 0x24 ∧
    ((0 : Byte).toNat = Lane.code .a ∧ ((given (working (.orphaned 1) 1) .p1 0x24 [0]).lane .a).tdnActive = false) ∧
    (given (working (.orphaned 1) 1) .p2 0x24 [0]).hands .p2 ⟨7, 0x24, [0]⟩ 0x24 ∧
    ((given (working (.orphaned 1) 1) .p2 0x24 [0]).roleOf .p2 ≠ .unit .a ∧ ((given (working (.orphaned 1) 1) .p2 0x24 [0]).portRole .p2).setup = false) ∧
    (given ready .p0 0x24 [3]).hands .p0 ⟨7, 0x24, [3]⟩ 0x24 ∧
    ((3 : Byte).toNat = Lane.code .d ∧ ((given ready .p0 0x24 [3]).lane .d).state = .idle) :=
  ⟨given_hands _ _ _ _ (by decide +kernel), by decide +kernel, given_hands _ _ _ _ (by decide +kernel),
    by decide +kernel, given_hands _ _ _ _ (by decide +kernel), by decide +kernel,
    given_hands _ _ _ _ (by decide +kernel), by decide +kernel, given_hands _ _ _ _ (by decide +kernel),
    by decide +kernel⟩

/-- An entry whose lift of 40 mm on the left reaches the deep lift. -/
def deepSleeper : Entry := { sleeper 1 0 with target := some ⟨40, 5, 0⟩ }

/-- An entry that is held and one that is not, and a deep lift, which raises the four needs. -/
theorem witness_HoldTakeStandsTheHold :
    (given standing .p0 0x14 [0, 1]).hands .p0 ⟨7, 0x14, [0, 1]⟩ 0x14 ∧
    (given standing .p0 0x14 [0, 1]).entry? 1 = some (sleeper 1 0) ∧
    (given standing .p0 0x14 [0, 2]).hands .p0 ⟨7, 0x14, [0, 2]⟩ 0x14 ∧
    (given standing .p0 0x14 [0, 2]).entry? 2 = none ∧
    (given (holding [deepSleeper]) .p0 0x14 [0, 1]).hands .p0 ⟨7, 0x14, [0, 1]⟩ 0x14 ∧
    (given (holding [deepSleeper]) .p0 0x14 [0, 1]).entry? 1 = some deepSleeper ∧
    (holding [deepSleeper]).live.deepLift = 40 ∧
    answer (.holdTake .p0) (given (holding [deepSleeper]) .p0 0x14 [0, 1]) .p0 =
      [7, 0x94, 0, 0, 1, 40, 5, 0, 0, 1, 2, 2, 2, 2, 15] :=
  ⟨given_hands _ _ _ _ (by decide +kernel), by decide +kernel, given_hands _ _ _ _ (by decide +kernel),
    by decide +kernel, given_hands _ _ _ _ (by decide +kernel), by decide +kernel⟩

/-- FORCE clear, set and past its set; a hold FREE and one that stands; a port without GEOMETRY. -/
theorem witness_HoldDropOpens :
    (given (working (.claimed 1) 1) .p0 0x16 [0]).hands .p0 ⟨7, 0x16, [0]⟩ 0x16 ∧
    (given (working (.claimed 1) 1) .p0 0x16 [1]).hands .p0 ⟨7, 0x16, [1]⟩ 0x16 ∧
    ((1 : Byte).toNat ≤ 1 ∧ (given (working (.claimed 1) 1) .p0 0x16 [1]).roleOf .p0 = .geometry ∧ (given (working (.claimed 1) 1) .p0 0x16 [1]).hold = .held 1 ⟨22, 18, 2⟩ (some 0)) ∧
    (given (working (.claimed 1) 1) .p0 0x16 [2]).hands .p0 ⟨7, 0x16, [2]⟩ 0x16 ∧
    1 < (2 : Byte).toNat ∧
    (given ready .p0 0x16 [0]).hands .p0 ⟨7, 0x16, [0]⟩ 0x16 ∧
    (given ready .p0 0x16 [0]).hold = .free ∧
    (given (working (.claimed 1) 1) .p1 0x16 [0]).hands .p1 ⟨7, 0x16, [0]⟩ 0x16 ∧
    (given (working (.claimed 1) 1) .p1 0x16 [0]).roleOf .p1 ≠ .geometry :=
  ⟨given_hands _ _ _ _ (by decide +kernel), given_hands _ _ _ _ (by decide +kernel), by decide +kernel,
    given_hands _ _ _ _ (by decide +kernel), by decide +kernel, given_hands _ _ _ _ (by decide +kernel),
    by decide +kernel, given_hands _ _ _ _ (by decide +kernel), by decide +kernel⟩

theorem witness_HoldSetAndClearAreTaken :
    (given { standing with hold := .lifting 1 ⟨22, 18, 2⟩ 4 } .p0 0x15 []).hands .p0 ⟨7, 0x15, []⟩ 0x15 ∧
    (given { standing with hold := .lifting 1 ⟨22, 18, 2⟩ 4 } .p0 0x15 []).roleOf .p0 = .geometry ∧
    (given ready .p0 0x15 []).hands .p0 ⟨7, 0x15, []⟩ 0x15 ∧
    (given ready .p0 0x15 []).hold = .free ∧
    (given ready .p1 0x15 []).hands .p1 ⟨7, 0x15, []⟩ 0x15 ∧
    (given ready .p1 0x15 []).roleOf .p1 ≠ .geometry ∧
    (given { standing with hold := .opening 1 ⟨22, 18, 2⟩ } .p0 0x17 []).hands .p0 ⟨7, 0x17, []⟩ 0x17 ∧
    (given ready .p0 0x17 []).hands .p0 ⟨7, 0x17, []⟩ 0x17 ∧
    (given ready .p1 0x17 []).hands .p1 ⟨7, 0x17, []⟩ 0x17 :=
  ⟨given_hands _ _ _ _ (by decide +kernel), by decide +kernel, given_hands _ _ _ _ (by decide +kernel),
    by decide +kernel, given_hands _ _ _ _ (by decide +kernel), by decide +kernel,
    given_hands _ _ _ _ (by decide +kernel), given_hands _ _ _ _ (by decide +kernel),
    given_hands _ _ _ _ (by decide +kernel)⟩

/-- Each timer at its limit. -/
theorem witness_HoldTimersExpire :
    (({ standing with hold := .lifting 1 ⟨22, 18, 2⟩ 6000 } : State).inReset = false ∧
      ({ standing with hold := .lifting 1 ⟨22, 18, 2⟩ 6000 } : State).live.liftTimeout ≤ (6000 : Nat)) ∧
    (({ standing with hold := .held 1 ⟨22, 18, 2⟩ (some 30000) } : State).inReset = false ∧
      ({ standing with hold := .held 1 ⟨22, 18, 2⟩ (some 30000) } : State).live.holdOverdue ≤ (30000 : Nat)) := by
  decide +kernel

/-- MOVE with the longest distance and one past it; STOP in GRANTED and in HALT, from a port without TRAVEL, and with a
parameter. -/
theorem witness_MoveAndStopAreTaken :
    (given ready .p5 0x28 [0x4E, 0x20]).hands .p5 ⟨7, 0x28, [0x4E, 0x20]⟩ 0x28 ∧
    ((0x4E : Byte) ++ (0x20 : Byte) : BitVec 16).toNat = 20000 ∧
    (given ready .p5 0x28 [0x4E, 0x21]).hands .p5 ⟨7, 0x28, [0x4E, 0x21]⟩ 0x28 ∧
    (given granted .p5 0x29 []).hands .p5 ⟨7, 0x29, []⟩ 0x29 ∧
    ((given granted .p5 0x29 []).roleOf .p5 = .travel ∧ (given granted .p5 0x29 []).motion.state = .granted 0 650) ∧
    (given ready .p5 0x29 []).hands .p5 ⟨7, 0x29, []⟩ 0x29 ∧
    (given ready .p5 0x29 []).motion.state = .halt ∧
    (given granted .p0 0x29 []).hands .p0 ⟨7, 0x29, []⟩ 0x29 ∧
    (given granted .p0 0x29 []).roleOf .p0 ≠ .travel ∧
    (given granted .p5 0x29 [1]).hands .p5 ⟨7, 0x29, [1]⟩ 0x29 :=
  ⟨given_hands _ _ _ _ (by decide +kernel), by decide +kernel, given_hands _ _ _ _ (by decide +kernel),
    given_hands _ _ _ _ (by decide +kernel), by decide +kernel, given_hands _ _ _ _ (by decide +kernel),
    by decide +kernel, given_hands _ _ _ _ (by decide +kernel), by decide +kernel,
    given_hands _ _ _ _ (by decide +kernel)⟩

theorem witness_CausesFreezeOrAreCounted :
    (ready.freeze.state = .run ∧ State.reset.freeze.state = .frozen) ∧
    (ready.inReset = false ∧ ready.pins.frzin = .high) ∧
    (({ ready with pins := { ready.pins with frzin := .low } } : State).inReset = false ∧ ({ ready with pins := { ready.pins with frzin := .low } } : State).pins.frzin = .low) := by
  decide +kernel

/-- A parameter too few or too many for each request whose statement says how it is refused. -/
theorem witness_wrong_lengths :
    (given ready .p0 0x37 [0, 0, 0]).hands .p0 ⟨7, 0x37, [0, 0, 0]⟩ 0x37 ∧
    (given ready .p0 0x12 [1]).hands .p0 ⟨7, 0x12, [1]⟩ 0x12 ∧
    (given ready .p0 0x13 []).hands .p0 ⟨7, 0x13, []⟩ 0x13 ∧
    (given ready .p0 0x36 [0]).hands .p0 ⟨7, 0x36, [0]⟩ 0x36 ∧
    (given ready .p0 0x15 [0]).hands .p0 ⟨7, 0x15, [0]⟩ 0x15 ∧
    (given ready .p0 0x17 [0]).hands .p0 ⟨7, 0x17, [0]⟩ 0x17 ∧
    (given ready .p5 0x28 [1]).hands .p5 ⟨7, 0x28, [1]⟩ 0x28 ∧
    (given ready .p0 0x32 [0]).hands .p0 ⟨7, 0x32, [0]⟩ 0x32 :=
  ⟨given_hands _ _ _ _ (by decide +kernel),
    given_hands _ _ _ _ (by decide +kernel),
    given_hands _ _ _ _ (by decide +kernel),
    given_hands _ _ _ _ (by decide +kernel),
    given_hands _ _ _ _ (by decide +kernel),
    given_hands _ _ _ _ (by decide +kernel),
    given_hands _ _ _ _ (by decide +kernel),
    given_hands _ _ _ _ (by decide +kernel)⟩

/-- The key, another key, a port without the FREEZE right, and a wrong length. -/
theorem witness_FreezeRequestHandsRequest :
    (given ready .p0 0x0C [0x3C]).hands .p0 ⟨7, 0x0C, [0x3C]⟩ 0x0C ∧
    ((given ready .p0 0x0C [0x3C]).portRole .p0).freeze = true ∧
    (given ready .p0 0x0C [0]).hands .p0 ⟨7, 0x0C, [0]⟩ 0x0C ∧
    (given { ready with store := { ready.store with live := { ready.live with roles := .replicate ⟨.observer, false, false, true⟩ } } } .p1 0x0C [0x3C]).hands .p1 ⟨7, 0x0C, [0x3C]⟩ 0x0C ∧
    (({ ready with store := { ready.store with live := { ready.live with roles := .replicate ⟨.observer, false, false, true⟩ } } } : State).portRole .p1).freeze = false ∧
    (given ready .p0 0x0C []).hands .p0 ⟨7, 0x0C, []⟩ 0x0C :=
  ⟨given_hands _ _ _ _ (by decide +kernel), by decide +kernel, given_hands _ _ _ _ (by decide +kernel),
    given_hands _ _ _ _ (by decide +kernel), by decide +kernel, given_hands _ _ _ _ (by decide +kernel)⟩

/-- FROZEN with lane A CLAIMED on entry 1. -/
def frozenClaim : State := { working (.claimed 1) 1 with freeze := State.reset.freeze }

/-- The sending port is ABSENT with its key window open. -/
def absentSender : State :=
  { frozenClaim with ports := { frozenClaim.ports with p0 := { frozenClaim.ports.p0 with presence := .absent } } }

/-- A freeze that may be thawed, a claim that the THAW revokes, an ABSENT port among those needed, which is the sender, and
a parameter too many. -/
theorem witness_ThawRevokesAndRuns :
    (given frozenClaim .p0 0x32 []).hands .p0 ⟨7, 0x32, []⟩ 0x32 ∧
    (given absentSender .p0 0x32 []).hands .p0 ⟨7, 0x32, []⟩ 0x32 ∧
    (given frozenClaim .p0 0x32 [0]).hands .p0 ⟨7, 0x32, [0]⟩ 0x32 ∧
    answer (.thaw .p0) (given frozenClaim .p0 0x32 []) .p0 = [7, 0xB2, 0, 1, 1, 0] ∧
    ((after (.thaw .p0) (given frozenClaim .p0 0x32 [])).freeze.state = .run ∧
      (after (.thaw .p0) (given frozenClaim .p0 0x32 [])).lanes.a.state = .idle) ∧
    answer (.thaw .p0) (given absentSender .p0 0x32 []) .p0 = [7, 0xB2, 0x21] :=
  ⟨given_hands _ _ _ _ (by decide +kernel), given_hands _ _ _ _ (by decide +kernel),
    given_hands _ _ _ _ (by decide +kernel), by decide +kernel⟩

/-- Checks that fail; a wrong length; an unknown code below and above 0x80; each byte outside its set; and each claim
request from a port without a UNIT role. -/
theorem witness_PortInterfaceRefuses :
    Operands.lowestRefusal [(true, .frozen), (false, .malformed), (true, .noRight)] = some .noRight ∧
    (given ready .p0 0x01 [0]).hands .p0 ⟨7, 0x01, [0]⟩ 0x01 ∧
    (Request.command? .p0 0x01 = some (.present .p0) ∧ Request.length? 0x01 = some 0) ∧
    (given ready .p0 0x7F []).hands .p0 ⟨7, 0x7F, []⟩ 0x7F ∧
    (given ready .p0 0x85 []).hands .p0 ⟨7, 0x85, []⟩ 0x85 ∧
    (Request.length? 0x7F = none ∧ Request.length? 0x85 = none) ∧
    (given ready .p0 0x37 [0]).hands .p0 ⟨7, 0x37, [0]⟩ 0x37 ∧
    (Request.command? .p0 0x37 = some (.axisPreset .p0) ∧ (given ready .p0 0x37 [0]).detector.made = none) ∧
    answer (.unknownCode .p0) (given ready .p0 0x85 []) .p0 = [7, 0x05, 0x11] ∧
    (∀ x, ready.roleOf .p0 ≠ .unit x) ∧
    (given ready .p0 0x20 [0, 1, 15]).hands .p0 ⟨7, 0x20, [0, 1, 15]⟩ 0x20 ∧
    (given ready .p0 0x20 [0, 1, 16]).hands .p0 ⟨7, 0x20, [0, 1, 16]⟩ 0x20 ∧
    (given ready .p0 0x21 []).hands .p0 ⟨7, 0x21, []⟩ 0x21 ∧
    (given ready .p0 0x22 [0, 1]).hands .p0 ⟨7, 0x22, [0, 1]⟩ 0x22 ∧
    (given ready .p0 0x23 []).hands .p0 ⟨7, 0x23, []⟩ 0x23 :=
  ⟨by decide +kernel, given_hands _ _ _ _ (by decide +kernel), by decide +kernel,
    given_hands _ _ _ _ (by decide +kernel), given_hands _ _ _ _ (by decide +kernel), by decide +kernel,
    given_hands _ _ _ _ (by decide +kernel), by decide +kernel, by decide +kernel,
    by intro x; cases x <;> decide +kernel, given_hands _ _ _ _ (by decide +kernel),
    given_hands _ _ _ _ (by decide +kernel), given_hands _ _ _ _ (by decide +kernel),
    given_hands _ _ _ _ (by decide +kernel), given_hands _ _ _ _ (by decide +kernel)⟩

/-- A kind of 3, a selector of 3, a role of 8, rights of 8 and the letter 4. -/
theorem witness_OutOfItsSetIsMalformed :
    (given standing .p0 0x10 [0, 1, 3, 1, 1, 1, 1, 0, 0, 0, 0, 0, 0, 0, 0, 0]).hands .p0 ⟨7, 0x10, [0, 1, 3, 1, 1, 1, 1, 0, 0, 0, 0, 0, 0, 0, 0, 0]⟩ 0x10 ∧
    (given standing .p0 0x10 [0, 1, 0, 1, 1, 1, 1, 0, 0, 0, 0, 3, 0, 0, 0, 0]).hands .p0 ⟨7, 0x10, [0, 1, 0, 1, 1, 1, 1, 0, 0, 0, 0, 3, 0, 0, 0, 0]⟩ 0x10 ∧
    (given ready .p0 0x31 [1, 7, 2, 6, 3, 6, 4, 6, 5, 6, 8, 6]).hands .p0 ⟨7, 0x31, [1, 7, 2, 6, 3, 6, 4, 6, 5, 6, 8, 6]⟩ 0x31 ∧
    (given ready .p0 0x31 [1, 8, 2, 6, 3, 6, 4, 6, 5, 6, 6, 6]).hands .p0 ⟨7, 0x31, [1, 8, 2, 6, 3, 6, 4, 6, 5, 6, 6, 6]⟩ 0x31 ∧
    (given ready .p0 0x24 [4]).hands .p0 ⟨7, 0x24, [4]⟩ 0x24 ∧ 3 < (4 : Byte).toNat :=
  ⟨given_hands _ _ _ _ (by decide +kernel), given_hands _ _ _ _ (by decide +kernel),
    given_hands _ _ _ _ (by decide +kernel), given_hands _ _ _ _ (by decide +kernel),
    given_hands _ _ _ _ (by decide +kernel), by decide +kernel⟩

/-- Setting numbers at the ends of the set and past them. -/
theorem witness_SetWritesTheValueTaken :
    (given ready .p0 0x30 [1, 0, 0, 0, 9]).hands .p0 ⟨7, 0x30, [1, 0, 0, 0, 9]⟩ 0x30 ∧
    (Setting.ofNumber? (1 : Byte).toNat).isSome = true ∧
    (given ready .p0 0x30 [36, 0, 0, 0, 9]).hands .p0 ⟨7, 0x30, [36, 0, 0, 0, 9]⟩ 0x30 ∧
    (Setting.ofNumber? (36 : Byte).toNat).isSome = true ∧
    (given ready .p0 0x30 [0, 0, 0, 0, 9]).hands .p0 ⟨7, 0x30, [0, 0, 0, 0, 9]⟩ 0x30 ∧
    (given ready .p0 0x30 [37, 0, 0, 0, 9]).hands .p0 ⟨7, 0x30, [37, 0, 0, 0, 9]⟩ 0x30 ∧
    36 < (37 : Byte).toNat :=
  ⟨given_hands _ _ _ _ (by decide +kernel), by decide +kernel, given_hands _ _ _ _ (by decide +kernel),
    by decide +kernel, given_hands _ _ _ _ (by decide +kernel), given_hands _ _ _ _ (by decide +kernel),
    by decide +kernel⟩

theorem defaults_lie_in_their_domains (k : Setting) : k.domain.holds (Settings.defaults.get k) := by
  cases k <;> (try (rename_i x; cases x)) <;> simp only [Setting.domain, Domain.holds] <;> decide +kernel

theorem defaults_are_legal : Settings.defaults.legal :=
  ⟨defaults_lie_in_their_domains, by decide +kernel⟩

/-- Legal settings, legal values at their bounds, and values outside a range and outside a set. -/
theorem witness_WritesAreLegalised :
    Settings.defaults.legal ∧ Setting.captureWindow.domain.holds 200 ∧
    200 ≤ Settings.defaults.minimumSpacing / 2 - 1 ∧
    Setting.widthMax.domain.holds Settings.defaults.widthMin ∧
    (Setting.liftTimeout.domain = .range 500 25500 100 ∧ (499 : Int) < 500 ∧ (25500 : Int) < 25501) ∧
    (Setting.edgeMode.domain = .codes [0, 1, 2] ∧ (3 : Int) ∉ [(0 : Int), 1, 2]) :=
  ⟨defaults_are_legal, by simp only [Setting.domain, Domain.holds]; decide +kernel, by decide +kernel,
    by simp only [Setting.domain, Domain.holds]; decide +kernel, by decide +kernel⟩

/-- Lanes A and B are not fitted, and their tines are down. -/
def unfitted : State :=
  let l : LaneController := { LaneController.reset with state := .off, tdnActive := true }
  { ready with
    store := { ready.store with live := { ready.live with lanesFitted := ⟨false, false, true, true⟩ } }
    lanes := { ready.lanes with a := l, b := l } }

/-- Lanes A and B are fitted, the TDN polarities change and the edge mode changes, all in one write. -/
def reloaded : State :=
  unfitted.writeSettings
    { unfitted.live with lanesFitted := .replicate true, tdnPolarity := .replicate .activeLow, edgeMode := .leading }

/-- A change of the edge mode and of the SDET polarity, a lift timeout lowered to the time run and one left above it, a
timer that is due, a change of a polarity, lanes newly fitted, and several changes in one write. -/
theorem witness_SettingsTakeEffect :
    ({ ready.live with edgeMode := .leading } : Settings).edgeMode ≠ ready.live.edgeMode ∧
    ({ ready.live with sdetPolarity := .activeLow } : Settings).sdetPolarity ≠ ready.live.sdetPolarity ∧
    ({ standing with
        hold := .lifting 1 ⟨22, 18, 2⟩ 500
        store := { standing.store with live := { standing.live with liftTimeout := 500 } } } : State).timerDue
      .liftTimerExpiry ∧
    ({ standing.live with liftTimeout := 500 } : Settings).liftTimeout ≠ standing.live.liftTimeout ∧
    ¬ ({ standing with
        hold := .lifting 1 ⟨22, 18, 2⟩ 500
        store := { standing.store with live := { standing.live with liftTimeout := 600 } } } : State).timerDue
      .liftTimerExpiry ∧
    (ready.inReset = false ∧ (silent ready .p1 300).timerDue (.presenceTimerExpiry .p1)) ∧
    ({ ready.live with tdnPolarity := .replicate .activeLow } : Settings).tdnPolarity ≠ ready.live.tdnPolarity ∧
    (unfitted.isFitted .a = false ∧ (unfitted.lane .a).tdnActive = true ∧ unfitted.isFitted .c = true) ∧
    ((unfitted.writeSettings { unfitted.live with lanesFitted := .replicate true }).freeze.source = .lane .a ∧
      (unfitted.writeSettings { unfitted.live with lanesFitted := .replicate true }).freeze.further = 1) ∧
    ((reloaded.lane .a).state = .fault ∧ (reloaded.lane .a).debounce = none ∧ (reloaded.lane .c).debounce = some 0 ∧
      reloaded.detector.inFlight = none) := by
  refine ⟨by decide +kernel, by decide +kernel, ⟨1, ⟨22, 18, 2⟩, 500, rfl, by decide +kernel⟩, by decide +kernel, ?_,
    ⟨by decide +kernel, 300, rfl, by decide +kernel⟩, by decide +kernel, by decide +kernel, by decide +kernel,
    by decide +kernel⟩
  rintro ⟨q, t, ms, h, hle⟩
  obtain ⟨-, -, rfl⟩ := HoldState.lifting.inj h
  exact absurd hle (by decide +kernel)

/-- The default roles as SET ROLES carries them. -/
theorem witness_SetRolesWritesTheRoles :
    (given ready .p0 0x31 [1, 7, 2, 6, 3, 6, 4, 6, 5, 6, 6, 6]).hands .p0 ⟨7, 0x31, [1, 7, 2, 6, 3, 6, 4, 6, 5, 6, 6, 6]⟩ 0x31 ∧
    ([1, 7, 2, 6, 3, 6, 4, 6, 5, 6, 6, 6] : List Byte) = Port.all.flatMap fun i => [BitVec.ofNat 8 (Settings.defaultRoles.get i).role.code, BitVec.ofNat 8 (Settings.defaultRoles.get i).rightsCode] :=
  ⟨given_hands _ _ _ _ (by decide +kernel), by decide +kernel⟩

theorem witness_SaveReloadRestartAreTaken :
    (given ready .p0 0x33 []).hands .p0 ⟨7, 0x33, []⟩ 0x33 ∧
    (given ready .p0 0x34 []).hands .p0 ⟨7, 0x34, []⟩ 0x34 ∧
    (given ready .p0 0x35 []).hands .p0 ⟨7, 0x35, []⟩ 0x35 ∧
    (({ ready with store := { ready.store with save := some ⟨.p0, 7, ready.live, 0⟩ } } : State).inReset = false ∧ ({ ready with store := { ready.store with save := some ⟨.p0, 7, ready.live, 0⟩ } } : State).store.save = some ⟨.p0, 7, ready.live, 0⟩) :=
  ⟨given_hands _ _ _ _ (by decide +kernel), given_hands _ _ _ _ (by decide +kernel),
    given_hands _ _ _ _ (by decide +kernel), by decide +kernel⟩

theorem witness_StoreImageRoundTrip :
    Settings.defaults.legal :=
  defaults_are_legal

theorem witness_RstnHoldsThePart :
    ((after .rstnAssertion ready).inReset = true ∧ Instr.activeEdge ≠ .fullReset) ∧
    (ready.pins.rstn = .high ∧ ready.store.save = none) ∧
    (({ ready with store := { ready.store with save := some ⟨.p0, 7, ready.live, 0⟩ } } : State).pins.rstn = .high ∧ ({ ready with store := { ready.store with save := some ⟨.p0, 7, ready.live, 0⟩ } } : State).store.save ≠ none) := by
  decide +kernel

/-- RESTART's response is sent, and a status frame has begun on its port. -/
def restarting : State :=
  { standing with
    restart := some ⟨.p0, true⟩
    ports := { standing.ports with p0 := { standing.ports.p0 with sending := some ⟨.statusFrame, [0, 0x40]⟩ } } }

theorem witness_RestartLeavesTheResetValues :
    restarting.inReset = false ∧ restarting.restart = some ⟨.p0, true⟩ ∧
      (after .restartTakesEffect restarting).ports.p0.sending = some ⟨.statusFrame, [0, 0x40]⟩ := by decide +kernel

/-! ### The invariants stand in states that are more than the reset state -/

/-- Lane A is DOWN under the hold on entry 1, with a release at the front of the queue. -/
def busy : State := { measured (.down 1 5) 0 .low with pending := [.release .a] }

/-- A grant stands, and a pulse is at the front of the queue. -/
def moving : State := { granted with pending := [.pulse .high] }

theorem witness_OutputLinesFollow : moving.linesFollow ∧ ∃ t, step moving = .next t := by
  refine ⟨⟨?_, by decide +kernel, by decide +kernel⟩, _, rfl⟩
  intro x
  constructor
  · intro h
    cases x <;> exact absurd h (by decide +kernel)
  · rintro ⟨-, -, ⟨q, e, h, -⟩, -⟩
    have none : (moving.lane x).state.permitSeq? = none := by cases x <;> decide +kernel
    rw [none] at h
    exact absurd h (by simp)

theorem busy_claims_hold : busy.claimsHold := by
  have entries : busy.list.entries = [claimedEntry 0] := by decide +kernel
  refine ⟨by decide +kernel, by decide +kernel, by intro x; cases x <;> decide +kernel, ?_, ?_⟩
  · intro x q h
    refine ⟨claimedEntry 0, by rw [entries]; exact List.mem_singleton.mpr rfl, ?_⟩
    cases x
    · have named : (busy.lane .a).state.named? = some 1 := by decide +kernel
      rw [named] at h
      cases h
      decide +kernel
    all_goals exact absurd h (by rw [show (busy.lane _).state.named? = none from by decide +kernel]; simp)
  · intro x e he h
    rw [entries, List.mem_singleton] at he
    subst he
    cases x
    · decide +kernel
    all_goals exact absurd h (by decide +kernel)

theorem witness_ClaimsMatchTheList : busy.claimsHold ∧ ∃ t, step busy = .next t := ⟨busy_claims_hold, _, rfl⟩

theorem witness_HoldNamesAnEntry : busy.holdStands ∧ ∃ t, step busy = .next t := by
  refine ⟨⟨?_, ?_⟩, _, rfl⟩
  · intro q h
    rw [show busy.hold.named? = some 1 from by decide +kernel] at h
    cases h
    exact ⟨claimedEntry 0, by decide +kernel, by decide +kernel⟩
  · intro x q ms h
    cases x
    · rw [show (busy.lane .a).state = .down 1 5 from by decide +kernel] at h
      cases h
      decide +kernel
    all_goals exact absurd h (by rw [show (busy.lane _).state = .idle from by decide +kernel]; simp)

theorem witness_GrantsAreSafe : moving.grantSafe ∧ moving.motion.state.isGranted = true ∧ ∃ t, step moving = .next t := by
  refine ⟨⟨by intro x; cases x <;> decide +kernel, fun _ => ⟨by decide +kernel, by decide +kernel, ?_⟩⟩,
    by decide +kernel, _, rfl⟩
  intro x _
  cases x <;> decide +kernel

theorem witness_SqueezesStayBounded : busy.squeezesHold ∧ ∃ t, step busy = .next t := by
  have entries : busy.list.entries = [claimedEntry 0] := by decide +kernel
  refine ⟨⟨busy_claims_hold, by intro x; cases x <;> decide +kernel, ?_, ?_, ?_⟩, _, rfl⟩
  · intro e he x
    rw [entries, List.mem_singleton] at he
    subst he
    cases x <;> decide +kernel
  · intro r hr
    rw [show busy.passages.records = [] from by decide +kernel] at hr
    cases hr
  · intro x q _ _ e he _
    rw [entries, List.mem_singleton] at he
    subst he
    cases x <;> decide +kernel

theorem witness_ListStaysOrdered : full.live.legal ∧ full.listOrdered ∧ ∃ t, step full = .next t :=
  ⟨defaults_are_legal, by unfold State.listOrdered; decide +kernel, _, rfl⟩

theorem witness_SettingsStayLegal : ready.settingsLegal ∧ ∃ t, step ready = .next t := by
  refine ⟨⟨defaults_are_legal, ?_, ?_⟩, _, rfl⟩
  · rw [show ready.store.image.settings = Settings.defaults from by decide +kernel]
    exact defaults_are_legal
  · intro v h
    exact absurd h (by simp [show ready.store.save = none from rfl])

theorem witness_CountersAgree :
    full.countsAgree ∧ full.inBounds ∧ crowded.inBounds ∧ ∃ t, step full = .next t := by
  refine ⟨by unfold State.countsAgree; decide +kernel, ⟨by decide +kernel, by decide +kernel, ?_, by decide +kernel⟩,
    ⟨by decide +kernel, by decide +kernel, ?_, by decide +kernel⟩, _, rfl⟩
  all_goals
    intro p
    cases p <;> decide +kernel

theorem witness_WaitingCandidateMeetsItsPreset :
    (waiting.candidateMeets ∧ ∃ t, step waiting = .next t ∧ t.detector.made = none) ∧
      changeWaiting.changeMeets ∧ ∃ t, step changeWaiting = .next t ∧ t.list.changeWaits = false :=
  ⟨⟨fun _ => ⟨by decide +kernel, .p0, [], rfl⟩, _, rfl, by decide +kernel⟩,
    fun _ => ⟨by decide +kernel, .activeEdge, [], .inl rfl, rfl⟩, _, rfl, by decide +kernel⟩

end Sys2Proof.Tests
end

section
/-! PROOFS. What every judged request shares: the refusal reported is the least of those that fail, so the order in which the
checks are listed does not matter (R142), and a signed number read from four bytes is carried in the same bytes (R144). -/

namespace Sys2Proof.Machine

/-! ### The lowest refusal (R142) -/

/-- The codes run on from 0x00 and, after the two acceptances, from 0x11, so a code gives its result back. -/
theorem Result.code_injective : Function.Injective Result.code := by
  have decode : Function.LeftInverse (fun n => Result.ofNat (if n ≤ 1 then n else n - 15)) Result.code := by
    intro r
    cases r <;> rfl
  exact decode.injective

theorem Operands.lowestRefusal_eq_none_iff (checks : List (Bool × Result)) :
    Operands.lowestRefusal checks = none ↔ ∀ c ∈ checks, c.1 = false := by
  induction checks with
  | nil => simp [Operands.lowestRefusal]
  | cons c rest ih =>
    obtain ⟨fails, r⟩ := c
    cases fails <;> cases h : Operands.lowestRefusal rest <;> simp_all [Operands.lowestRefusal]

/-- A refusal reported is that of a check that fails, and none that fails has a lower code. -/
theorem Operands.lowestRefusal_least {checks : List (Bool × Result)} {r : Result}
    (h : Operands.lowestRefusal checks = some r) :
    (true, r) ∈ checks ∧ ∀ r', (true, r') ∈ checks → r.code ≤ r'.code := by
  induction checks generalizing r with
  | nil => simp [Operands.lowestRefusal] at h
  | cons c rest ih =>
    obtain ⟨fails, a⟩ := c
    cases fails with
    | false => simpa using ih h
    | true =>
      simp only [List.mem_cons, Prod.mk.injEq, true_and, forall_eq_or_imp]
      cases hr : Operands.lowestRefusal rest with
      | none =>
        have rest_passes := (Operands.lowestRefusal_eq_none_iff rest).1 hr
        simp only [Operands.lowestRefusal, hr, Option.some.injEq] at h
        subst h
        exact ⟨.inl rfl, Nat.le_refl _, fun r' h' => absurd (rest_passes _ h') (by simp)⟩
      | some low =>
        obtain ⟨low_mem, low_least⟩ := ih hr
        simp only [Operands.lowestRefusal, hr, Option.some.injEq] at h
        subst h
        split <;> rename_i lower
        · exact ⟨.inl rfl, Nat.le_refl _, fun r' h' => Nat.le_trans lower (low_least r' h')⟩
        · exact ⟨.inr low_mem, Nat.le_of_not_le lower, low_least⟩

theorem Operands.lowestRefusal_eq_some_iff (checks : List (Bool × Result)) (r : Result) :
    Operands.lowestRefusal checks = some r ↔
      (true, r) ∈ checks ∧ ∀ r', (true, r') ∈ checks → r.code ≤ r'.code := by
  refine ⟨Operands.lowestRefusal_least, fun ⟨mem, least⟩ => ?_⟩
  cases h : Operands.lowestRefusal checks with
  | none => exact absurd ((Operands.lowestRefusal_eq_none_iff checks).1 h _ mem) (by simp)
  | some low =>
    obtain ⟨low_mem, low_least⟩ := Operands.lowestRefusal_least h
    rw [Result.code_injective (Nat.le_antisymm (low_least r mem) (least low low_mem))]

/-- Which refusal is reported depends on the set of checks alone: neither on their order nor on repetitions. -/
theorem Operands.lowestRefusal_congr {checks checks' : List (Bool × Result)} (h : ∀ c, c ∈ checks ↔ c ∈ checks') :
    Operands.lowestRefusal checks = Operands.lowestRefusal checks' :=
  Option.ext fun r => by simp only [Operands.lowestRefusal_eq_some_iff, h]

theorem State.afterJudging_congr {checks checks' : List (Bool × Result)} (h : ∀ c, c ∈ checks ↔ c ∈ checks') (s : State)
    (p : Port) (r : Request) (accepted : State) :
    s.afterJudging p r checks accepted = s.afterJudging p r checks' accepted := by
  simp only [State.afterJudging, Operands.lowestRefusal_congr h]

/-! ### What an answer leaves as it was (R135, R141, R142) -/

@[simp] theorem State.answers_detector (s : State) (p : Port) (r : Request) (result : Result) (data : List Byte) :
    (s.answers p r result data).detector = s.detector := rfl

@[simp] theorem State.refuses_detector (s : State) (p : Port) (r : Request) (result : Result) :
    (s.refuses p r result).detector = s.detector := rfl

/-- A judged request leaves no candidate waiting where none waits before it and none where it is accepted (R13). -/
theorem State.afterJudging_made {s accepted : State} (h : s.detector.made = none) (h' : accepted.detector.made = none)
    (p : Port) (r : Request) (checks : List (Bool × Result)) :
    (s.afterJudging p r checks accepted).detector.made = none := by
  unfold State.afterJudging
  split <;> simp [h, h']

/-! ### Numbers on a port (R144) -/

/-- A signed number read from four bytes is carried in the same four bytes. -/
theorem Operands.carryAxis_signed4 (b3 b2 b1 b0 : Byte) :
    Operands.carryAxis (Operands.signed4 b3 b2 b1 b0) = [b3, b2, b1, b0] := by
  simp only [Operands.carryAxis, Operands.carry4, Operands.signed4, BitVec.ofInt_toInt, List.cons.injEq, and_true]
  refine ⟨?_, ?_, ?_, ?_⟩ <;> ext i hi <;> simp <;> grind

end Sys2Proof.Machine
end

section
/-! PROOFS. AXIS PRESET (R11, R12). -/

namespace Sys2Proof.Machine

theorem exec_axisPreset (p : Port) (s : State) :
    exec (.axisPreset p) s = .next (s.takeRequest p 0x37 (State.judgeAxisPreset p)).offerMade := rfl

/-- The value lies outside the axis limit exactly beyond 2,147,000,000 on either side (R9). -/
theorem AxisUnit.not_inLimit (v : Int) :
    (!AxisUnit.inLimit v) = decide (v < -2147000000 ∨ 2147000000 < v) := by
  rw [Bool.eq_iff_iff]
  simp only [AxisUnit.inLimit, Bool.not_eq_true', Bool.and_eq_false_iff, decide_eq_false_iff_not, decide_eq_true_eq,
    Int.not_le]

theorem State.judgeAxisPreset_of_length {r : Request} (h : r.params.length ≠ 4) (p : Port) (s : State) :
    State.judgeAxisPreset p s r = Reply.refuse s .malformed := by
  unfold State.judgeAxisPreset
  split <;> simp_all

/-- The state after a preset that is accepted: the axis, the phase, the candidate in flight and the halt point (R11, R12). -/
theorem State.preset_unqueues (s : State) (p : Port) (v : Int) :
    (s.unqueues p).preset v =
      { s.unqueues p with
        axis := ⟨v, 0, s.axis.direction⟩
        detector := { s.detector with inFlight := none }
        motion := { s.motion with haltPoint := v } } := rfl

@[simp] theorem State.preset_made (s : State) (v : Int) : (s.preset v).detector.made = s.detector.made := rfl

/-- An AXIS PRESET with its four bytes is judged by the checks of R11, in the order of their codes. -/
theorem State.takeRequest_axisPreset {s : State} {p : Port} {r : Request} (h : s.hands p r 0x37) {b3 b2 b1 b0 : Byte}
    (hb : r.params = [b3, b2, b1, b0]) :
    s.takeRequest p 0x37 (State.judgeAxisPreset p) = s.afterJudging p r
      [(decide (Operands.signed4 b3 b2 b1 b0 < -2147000000 ∨ 2147000000 < Operands.signed4 b3 b2 b1 b0), .malformed),
       (!(s.portRole p).setup, .noRight), (decide ((s.ports.get p).keyCount = 0), .protectedRequest),
       (!s.quiescent, .notQuiescent), (!s.list.entries.isEmpty, .wrongState)]
      (((s.unqueues p).preset (Operands.signed4 b3 b2 b1 b0)).answers p r .accepted
        ([b3, b2, b1, b0, 0] ++ [BitVec.ofNat 8 s.axis.direction.code])) := by
  have keyClosed : (!s.keyOpen p) = decide ((s.ports.get p).keyCount = 0) := by
    simp [State.keyOpen, Nat.pos_iff_ne_zero]
  rw [State.takeRequest_of_hands h]
  simp only [State.judgeAxisPreset, hb, State.respond_judge, State.respond_answer, Operands.carryAxis_signed4,
    Operands.carry1, AxisUnit.not_inLimit, State.protectedChecks, State.unqueues_keeps, State.unqueues_conditions,
    State.unqueues_ofPort, keyClosed, List.cons_append, List.nil_append]
  have wrongStateLast (first wrongState noRight keyless busy : Bool × Result) :
      [first, wrongState, noRight, keyless, busy].Perm [first, noRight, keyless, busy, wrongState] :=
    (List.perm_append_comm (l₁ := [wrongState]) (l₂ := [noRight, keyless, busy])).cons first
  exact State.afterJudging_congr (fun _ => (wrongStateLast ..).mem_iff) s p r _

/-- Settles O19. The request is judged by `takeRequest_axisPreset`; no candidate waits before it, so none is offered after
it. -/
theorem axisPresetSetsTheAxis : Obligations.AxisPresetSetsTheAxis := by
  intro p r s hands none_waits
  refine ⟨fun length => ?_, fun b3 b2 b1 b0 bytes => ?_⟩
  · rw [exec_axisPreset, State.takeRequest_of_hands hands, State.judgeAxisPreset_of_length length, State.respond_refuse,
      State.offerMade_of_none (by simpa using none_waits)]
  · rw [exec_axisPreset, State.takeRequest_axisPreset hands bytes,
      State.offerMade_of_none (State.afterJudging_made none_waits (by simpa using none_waits) p r _),
      State.preset_unqueues]

end Sys2Proof.Machine
end

section
/-! PROOFS. STRIKE (R45). -/

namespace Sys2Proof.Machine

/-! ### Checks that cannot decide a judgement (R142) -/

/-- A judgement depends on the checks that fail alone: a check that passes may be left out. -/
theorem State.afterJudging_congr_failing {checks checks' : List (Bool × Result)}
    (h : ∀ c, (true, c) ∈ checks ↔ (true, c) ∈ checks') (s : State) (p : Port) (r : Request) (accepted : State) :
    s.afterJudging p r checks accepted = s.afterJudging p r checks' accepted := by
  have same : Operands.lowestRefusal checks = Operands.lowestRefusal checks' :=
    Option.ext fun c => by simp only [Operands.lowestRefusal_eq_some_iff, h]
  simp only [State.afterJudging, same]

/-- Once a check fails, neither checks of no lower code nor the state on acceptance tell: the refusal is the same. -/
theorem State.afterJudging_outranked {checks higher : List (Bool × Result)} {c : Result} (fails : (true, c) ∈ checks)
    (outranked : ∀ d ∈ higher, c.code ≤ d.2.code) (s : State) (p : Port) (r : Request) (accepted accepted' : State) :
    s.afterJudging p r (checks ++ higher) accepted = s.afterJudging p r checks accepted' := by
  cases low_eq : Operands.lowestRefusal checks with
  | none => exact absurd ((Operands.lowestRefusal_eq_none_iff checks).1 low_eq _ fails) (by simp)
  | some low =>
    obtain ⟨low_mem, low_least⟩ := Operands.lowestRefusal_least low_eq
    have still_low : Operands.lowestRefusal (checks ++ higher) = some low := by
      refine (Operands.lowestRefusal_eq_some_iff _ _).2 ⟨List.mem_append_left _ low_mem, fun d d_mem => ?_⟩
      rcases List.mem_append.1 d_mem with before | after
      · exact low_least d before
      · exact Nat.le_trans (low_least c fails) (outranked _ after)
    simp only [State.afterJudging, low_eq, still_low]

/-! ### The entry named -/

/-- A seq read from two bytes is carried in the same two bytes (R144). -/
theorem Operands.carry2_word (hi lo : Byte) : Operands.carry2 (Operands.word hi lo) = [hi, lo] := by
  simp only [Operands.carry2, Operands.word, BitVec.extractLsb'_append_eq_left, BitVec.extractLsb'_append_eq_right]

theorem State.unqueues_entry? (s : State) (p : Port) (q : SeqNo) : (s.unqueues p).entry? q = s.entry? q := rfl

theorem State.seq_of_entry? {s : State} {q : SeqNo} {e : Entry} (h : s.entry? q = some e) : e.seq = q :=
  of_decide_eq_true (List.find?_some (p := fun f : Entry => decide (f.seq = q)) h)

theorem Entry.touched_eq (e : Entry) :
    e.touched = decide (∃ x ∈ Lane.all, (e.lanes.get x).status ≠ .unclaimed ∨ (e.lanes.get x).squeezes ≠ 0) := by
  rw [Bool.eq_iff_iff, Entry.touched, List.any_eq_true, decide_eq_true_iff]
  simp only [Bool.or_eq_true, decide_eq_true_eq]
  constructor
  · rintro ⟨record, mem, used⟩
    obtain ⟨x, rfl⟩ := (PerLane.mem_toList e.lanes record).1 mem
    exact ⟨x, Lane.mem_all x, used⟩
  · rintro ⟨x, -, used⟩
    exact ⟨e.lanes.get x, (PerLane.mem_toList e.lanes _).2 ⟨x, rfl⟩, used⟩

/-! ### The request -/

theorem exec_strike (p : Port) (s : State) :
    exec (.strike p) s = .next (s.takeRequest p 0x12 (State.judgeStrike p)) := rfl

theorem State.judgeStrike_of_length {r : Request} (h : r.params.length ≠ 2) (p : Port) (s : State) :
    State.judgeStrike p s r = Reply.refuse s .malformed := by
  unfold State.judgeStrike
  split
  next bytes => exact absurd (congrArg List.length bytes) h
  next => rfl

/-- A STRIKE of an entry not held is refused at the latest with UNKNOWN_ENTRY. That the hold may name the seq does not tell,
since WRONG_STATE has a higher code. -/
theorem State.takeRequest_strike_of_none {s : State} {p : Port} {r : Request} (h : s.hands p r 0x12) {hi lo : Byte}
    (hb : r.params = [hi, lo]) (absent : s.entry? (Operands.word hi lo) = none) (accepted : State) :
    s.takeRequest p 0x12 (State.judgeStrike p) = s.afterJudging p r
      [(s.notGeometry p, .noRight), (s.frozen, .frozen), (true, .unknownEntry)] accepted := by
  rw [State.takeRequest_of_hands h]
  simp only [State.judgeStrike, hb, State.respond_judge, State.unqueues_keeps, State.unqueues_conditions,
    State.unqueues_ofPort, State.unqueues_entry?, absent]
  exact State.afterJudging_outranked (c := .unknownEntry)
    (checks := [(s.notGeometry p, .noRight), (s.frozen, .frozen), (true, .unknownEntry)])
    (higher := [_, _]) (by simp only [List.mem_cons, true_or, or_true]) (by simp [Result.code]) s p r _ accepted

/-- A STRIKE of an entry held is judged on the sender, the freeze, the entry's lane records and the hold; the check on an
unknown seq passes and is left out. -/
theorem State.takeRequest_strike_of_some {s : State} {p : Port} {r : Request} (h : s.hands p r 0x12) {hi lo : Byte}
    (hb : r.params = [hi, lo]) {e : Entry} (held : s.entry? (Operands.word hi lo) = some e) :
    s.takeRequest p 0x12 (State.judgeStrike p) = s.afterJudging p r
      [(s.notGeometry p, .noRight), (s.frozen, .frozen), (e.touched, .wrongState),
       (decide (s.hold.named? = some (Operands.word hi lo)), .wrongState)]
      (((s.unqueues p).strikeEntry e).answers p r .accepted [hi, lo]) := by
  rw [State.takeRequest_of_hands h]
  simp only [State.judgeStrike, hb, State.respond_judge, State.respond_answer, State.unqueues_keeps,
    State.unqueues_conditions, State.unqueues_ofPort, State.unqueues_entry?, held,
    Operands.carry2_word]
  refine State.afterJudging_congr_failing (fun c => ?_) s p r _
  simp only [List.mem_cons, Prod.mk.injEq, Option.isNone_some, Option.any_some, Bool.true_eq_false, false_and, false_or]

/-- Settles O25. The entry found has the seq named, so the entry that leaves the list is the one judged. -/
theorem strikeDepartsTheEntry : Obligations.StrikeDepartsTheEntry := by
  intro p r s hands
  refine ⟨fun length => ?_, fun hi lo bytes => ⟨fun absent => ?_, fun e held => ?_⟩⟩
  · rw [exec_strike, State.takeRequest_of_hands hands, State.judgeStrike_of_length length, State.respond_refuse]
  · rw [exec_strike, State.takeRequest_strike_of_none hands bytes absent s]
    rfl
  · have seq_named : e.seq = Operands.word hi lo := State.seq_of_entry? held
    rw [exec_strike, State.takeRequest_strike_of_some hands bytes held, Entry.touched_eq, State.strikeEntry, seq_named]
    rfl

end Sys2Proof.Machine
end

section
/-! PROOFS. TAKE PASSAGES (R64) and FLUSH (R56). -/

namespace Sys2Proof.Machine

/-! ### TAKE PASSAGES (R64) -/

theorem exec_takePassages (p : Port) (s : State) :
    exec (.takePassages p) s = .next (s.takeRequest p 0x13 (State.judgeTakePassages p)) := rfl

theorem Operands.not_countInRange (n : Byte) : (!Operands.countInRange n) = decide (n.toNat < 1 ∨ 4 < n.toNat) := by
  rw [Bool.eq_iff_iff]
  simp only [Operands.countInRange, Bool.not_eq_true', Bool.and_eq_false_iff, decide_eq_false_iff_not,
    decide_eq_true_eq, Nat.not_le]

/-- No more records are removed, or counted as taken, than are held. -/
theorem State.takeOldest_eq (s : State) (count : Nat) :
    s.takeOldest count = { s with passages := { s.passages with
      records := s.passages.records.drop (min count s.passages.records.length)
      taken := s.passages.taken + BitVec.ofNat 32 (min count s.passages.records.length) } } := by
  rw [State.takeOldest, List.length_take, ← List.drop_eq_drop_min]

/-- The answer carries how many records are left, how many were removed, and those: the two counts add up to what was
held (R64, R145). -/
theorem PassageList.reply_oldest (held : List PassageRecord) (discarded : Count32) (count : Nat) :
    PassageList.reply (held.drop count).length discarded (held.take count) =
      BitVec.ofNat 8 (held.length - min count held.length) :: (Operands.carry4 discarded
        ++ BitVec.ofNat 8 (min count held.length)
          :: (held.take (min count held.length)).flatMap PassageRecord.carried) := by
  have left : (held.drop count).length = held.length - min count held.length := by
    rw [List.drop_eq_drop_min, List.length_drop]
  rw [PassageList.reply, left, List.length_take, ← List.take_eq_take_min, List.append_assoc]
  rfl

theorem State.judgeTakePassages_of_length {r : Request} (h : r.params.length ≠ 1) (p : Port) (s : State) :
    State.judgeTakePassages p s r = Reply.refuse s .malformed := by
  unfold State.judgeTakePassages
  split
  next bytes => exact absurd (congrArg List.length bytes) h
  next => rfl

/-- A TAKE PASSAGES with its count is judged on the count and on the sender. -/
theorem State.takeRequest_takePassages {s : State} {p : Port} {r : Request} (h : s.hands p r 0x13) {b : Byte}
    (hb : r.params = [b]) :
    s.takeRequest p 0x13 (State.judgeTakePassages p) = s.afterJudging p r
      [(decide (b.toNat < 1 ∨ 4 < b.toNat), .malformed), (s.notGeometry p, .noRight)]
      (((s.unqueues p).takeOldest b.toNat).answers p r .accepted
        (PassageList.reply (s.passages.records.drop b.toNat).length s.passages.discarded
          (s.passages.records.take b.toNat))) := by
  rw [State.takeRequest_of_hands h]
  simp only [State.judgeTakePassages, hb, State.respond_judge, State.respond_answer, Operands.not_countInRange,
    State.unqueues_ofPort, State.takeOldest, State.unqueues_keeps]

/-! ### FLUSH (R56) -/

theorem exec_flush (p : Port) (s : State) : exec (.flush p) s = .next (s.takeRequest p 0x36 (State.judgeFlush p)) := rfl

/-- The key window is closed exactly where its count is 0 (R141). -/
theorem State.not_keyOpen (s : State) (p : Port) : (!s.keyOpen p) = decide ((s.ports.get p).keyCount = 0) := by
  simp [State.keyOpen, Nat.pos_iff_ne_zero]

theorem State.judgeFlush_of_params {r : Request} (h : r.params ≠ []) (p : Port) (s : State) :
    State.judgeFlush p s r = Reply.refuse s .malformed := by
  unfold State.judgeFlush
  split
  next empty => exact absurd empty h
  next => rfl

/-- A FLUSH is judged by the checks of a protected request that needs quiescence, and answers how many entries it
removes. -/
theorem State.takeRequest_flush {s : State} {p : Port} {r : Request} (h : s.hands p r 0x36) (hb : r.params = []) :
    s.takeRequest p 0x36 (State.judgeFlush p) = s.afterJudging p r
      [(!(s.portRole p).setup, .noRight), (decide ((s.ports.get p).keyCount = 0), .protectedRequest),
       (!s.quiescent, .notQuiescent)]
      ((s.unqueues p).flushList.answers p r .accepted [BitVec.ofNat 8 s.list.entries.length]) := by
  rw [State.takeRequest_of_hands h]
  simp only [State.judgeFlush, hb, State.respond_judge, State.respond_answer, State.protectedChecks, State.not_keyOpen,
    State.unqueues_keeps, State.unqueues_conditions, State.unqueues_ofPort, Operands.carry1]

theorem State.flushList_unqueues (s : State) (p : Port) :
    (s.unqueues p).flushList = { s.unqueues p with list := { s.list with
      entries := [], flushed := s.list.flushed + BitVec.ofNat 32 s.list.entries.length, pendingGap := false } } := rfl

/-! ### The statement of both -/

/-- Settles O26. TAKE PASSAGES removes the lesser of the count asked for and the records held (`takeOldest_eq`), and its
answer carries the records so removed (`reply_oldest`). -/
theorem takePassagesAndFlushRemove : Obligations.TakePassagesAndFlushRemove := by
  refine ⟨fun p r s hands => ⟨fun length => ?_, fun b bytes => ?_⟩,
    fun p r s hands => ⟨fun params => ?_, fun empty => ?_⟩⟩
  · rw [exec_takePassages, State.takeRequest_of_hands hands, State.judgeTakePassages_of_length length,
      State.respond_refuse]
  · rw [exec_takePassages, State.takeRequest_takePassages hands bytes, State.takeOldest_eq, PassageList.reply_oldest]
    rfl
  · rw [exec_flush, State.takeRequest_of_hands hands, State.judgeFlush_of_params params, State.respond_refuse]
  · rw [exec_flush, State.takeRequest_flush hands empty, State.flushList_unqueues]

end Sys2Proof.Machine
end

section
/-! PROOFS. HOLD SET (R100) and HOLD CLEAR (R104). -/

namespace Sys2Proof.Machine

/-! ### What a judgement comes to (R142) -/

theorem State.afterJudging_of_lowest {checks : List (Bool × Result)} {c : Result} (fails : (true, c) ∈ checks)
    (least : ∀ d, (true, d) ∈ checks → c.code ≤ d.code) (s : State) (p : Port) (r : Request) (accepted : State) :
    s.afterJudging p r checks accepted = (s.refuses p r c).settle := by
  simp only [State.afterJudging, (Operands.lowestRefusal_eq_some_iff checks c).2 ⟨fails, least⟩]

theorem State.afterJudging_of_passes {checks : List (Bool × Result)} (passes : ∀ c ∈ checks, c.1 = false) (s : State)
    (p : Port) (r : Request) (accepted : State) : s.afterJudging p r checks accepted = accepted.settle := by
  simp only [State.afterJudging, (Operands.lowestRefusal_eq_none_iff checks).2 passes]

/-! ### Requests judged on the sender's role and on one state

HOLD SET and HOLD CLEAR are both judged so: the sender must have the role GEOMETRY, and the hold must not bar them. -/

section
variable {s : State} {p : Port} (r : Request) (accepted : State)

/-- NO_RIGHT has a lower code than WRONG_STATE, so the state does not tell where the sender has not the role. -/
theorem State.afterJudging_geometry_noRight (sender : s.roleOf p ≠ .geometry) (barred : Bool) :
    s.afterJudging p r [(s.notGeometry p, .noRight), (barred, .wrongState)] accepted =
      (s.refuses p r .noRight).settle := by
  refine State.afterJudging_of_lowest ?_ ?_ s p r accepted
  · simp [State.notGeometry, sender]
  · simp only [List.mem_cons, Prod.mk.injEq, List.not_mem_nil, or_false]
    rintro d (⟨-, rfl⟩ | ⟨-, rfl⟩) <;> simp [Result.code]

theorem State.afterJudging_geometry_wrongState (sender : s.roleOf p = .geometry) :
    s.afterJudging p r [(s.notGeometry p, .noRight), (true, .wrongState)] accepted =
      (s.refuses p r .wrongState).settle :=
  State.afterJudging_of_lowest (by simp) (by simp [State.notGeometry, sender]) s p r accepted

theorem State.afterJudging_geometry_accepted (sender : s.roleOf p = .geometry) :
    s.afterJudging p r [(s.notGeometry p, .noRight), (false, .wrongState)] accepted = accepted.settle :=
  State.afterJudging_of_passes (by simp [State.notGeometry, sender]) s p r accepted

end

/-! ### HOLD SET (R100) -/

theorem exec_holdSet (p : Port) (s : State) :
    exec (.holdSet p) s = .next (s.takeRequest p 0x15 (State.judgeHoldSet p)) := rfl

theorem HoldState.isLifting_eq_false_iff (h : HoldState) :
    h.isLifting = false ↔ ∀ q t ms, h ≠ .lifting q t ms := by
  cases h <;> simp [HoldState.isLifting]

theorem State.judgeHoldSet_of_params {r : Request} (h : r.params ≠ []) (p : Port) (s : State) :
    State.judgeHoldSet p s r = Reply.refuse s .malformed := by
  unfold State.judgeHoldSet
  split
  next empty => exact absurd empty h
  next => rfl

/-- A HOLD SET is judged on the sender and on whether the hold is in LIFTING. -/
theorem State.takeRequest_holdSet {s : State} {p : Port} {r : Request} (h : s.hands p r 0x15) (hb : r.params = []) :
    s.takeRequest p 0x15 (State.judgeHoldSet p) = s.afterJudging p r
      [(s.notGeometry p, .noRight), (!s.hold.isLifting, .wrongState)]
      (State.respond p r (s.unqueues p).acceptHoldSet) := by
  rw [State.takeRequest_of_hands h]
  simp only [State.judgeHoldSet, hb, State.respond_judge, State.unqueues_keeps, State.unqueues_ofPort]

theorem State.acceptHoldSet_of_lifting {s : State} {q : SeqNo} {t : LiftTarget} {ms : Nat}
    (lifting : s.hold = .lifting q t ms) :
    s.acceptHoldSet = Reply.answer (({ s with hold := .held q t (some 0) } : State).raise .holdHeld) .accepted
      (Operands.carry2 q ++ t.carried) := by
  simp only [State.acceptHoldSet, lifting]

/-! ### HOLD CLEAR (R104) -/

theorem exec_holdClear (p : Port) (s : State) :
    exec (.holdClear p) s = .next (s.takeRequest p 0x17 (State.judgeHoldClear p)) := rfl

theorem HoldState.openingSeq?_eq_none_iff (h : HoldState) :
    h.openingSeq? = none ↔ ∀ q t, h ≠ .opening q t := by
  cases h <;> simp [HoldState.openingSeq?]

theorem State.judgeHoldClear_of_params {r : Request} (h : r.params ≠ []) (p : Port) (s : State) :
    State.judgeHoldClear p s r = Reply.refuse s .malformed := by
  unfold State.judgeHoldClear
  split
  next empty => exact absurd empty h
  next => rfl

/-- A HOLD CLEAR is judged on the sender and on whether the hold is in OPENING. -/
theorem State.takeRequest_holdClear {s : State} {p : Port} {r : Request} (h : s.hands p r 0x17) (hb : r.params = []) :
    s.takeRequest p 0x17 (State.judgeHoldClear p) = s.afterJudging p r
      [(s.notGeometry p, .noRight), (s.hold.openingSeq?.isNone, .wrongState)]
      (State.respond p r (s.unqueues p).acceptHoldClear) := by
  rw [State.takeRequest_of_hands h]
  simp only [State.judgeHoldClear, hb, State.respond_judge, State.unqueues_keeps, State.unqueues_ofPort]

theorem State.acceptHoldClear_of_opening {s : State} {q : SeqNo} {t : LiftTarget} (opening : s.hold = .opening q t) :
    s.acceptHoldClear = Reply.answer (({ s with hold := .free } : State).raise .holdFree).retire .accepted
      (Operands.carry2 q) := by
  simp only [State.acceptHoldClear, opening, HoldState.openingSeq?, State.clearHold]

/-! ### The statement of both -/

/-- Settles O35. Each request is judged on the sender and on the state of the hold that it ends. -/
theorem holdSetAndClearAreTaken : Obligations.HoldSetAndClearAreTaken := by
  refine ⟨fun p r s hands => ?holdSet, fun p r s hands => ?holdClear⟩
  case holdSet =>
    rw [exec_holdSet]
    refine ⟨fun params => ?_, fun empty sender => ?_, fun empty sender other => ?_,
      fun q t ms empty sender lifting => ?_⟩
    · rw [State.takeRequest_of_hands hands, State.judgeHoldSet_of_params params, State.respond_refuse]
    · rw [State.takeRequest_holdSet hands empty, State.afterJudging_geometry_noRight r _ sender]
    · rw [State.takeRequest_holdSet hands empty, (HoldState.isLifting_eq_false_iff _).2 other, Bool.not_false,
        State.afterJudging_geometry_wrongState r _ sender]
    · have unbarred : (!s.hold.isLifting) = false := by rw [lifting]; rfl
      rw [State.takeRequest_holdSet hands empty, unbarred, State.afterJudging_geometry_accepted r _ sender,
        State.acceptHoldSet_of_lifting (s := s.unqueues p) lifting, State.respond_answer]
  case holdClear =>
    rw [exec_holdClear]
    refine ⟨fun params => ?_, fun empty sender => ?_, fun empty sender other => ?_,
      fun q t empty sender opening => ?_⟩
    · rw [State.takeRequest_of_hands hands, State.judgeHoldClear_of_params params, State.respond_refuse]
    · rw [State.takeRequest_holdClear hands empty, State.afterJudging_geometry_noRight r _ sender]
    · rw [State.takeRequest_holdClear hands empty, (HoldState.openingSeq?_eq_none_iff _).2 other, Option.isNone_none,
        State.afterJudging_geometry_wrongState r _ sender]
    · have unbarred : s.hold.openingSeq?.isNone = false := by rw [opening]; rfl
      rw [State.takeRequest_holdClear hands empty, unbarred, State.afterJudging_geometry_accepted r _ sender,
        State.acceptHoldClear_of_opening (s := s.unqueues p) opening, State.respond_answer]

end Sys2Proof.Machine
end

section
/-! PROOFS. MOVE (R113, R114) and STOP (R115). -/

namespace Sys2Proof.Machine

/-! ### The fitted lanes (R70) -/

theorem State.anyFitted_eq_true_iff (s : State) (f : LaneController → Bool) :
    s.anyFitted f = true ↔ ∃ x, s.isFitted x = true ∧ f (s.lane x) = true := by
  simp [State.anyFitted]

theorem State.unqueues_anyFitted (s : State) (p : Port) (f : LaneController → Bool) :
    (s.unqueues p).anyFitted f = s.anyFitted f := rfl

theorem LaneState.isFault_iff (l : LaneState) : l.isFault = true ↔ l = .fault := decide_eq_true_iff

theorem LaneState.claimedOrOrphaned?_isSome_iff (l : LaneState) :
    l.claimedOrOrphaned?.isSome = true ↔ (∃ q, l = .claimed q) ∨ ∃ q, l = .orphaned q := by
  cases l <;> simp [LaneState.claimedOrOrphaned?]

/-! ### MOVE (R113, R114) -/

theorem exec_move (p : Port) (s : State) : exec (.move p) s = .next (s.takeRequest p 0x28 (State.judgeMove p)) := rfl

theorem State.judgeMove_of_length {r : Request} (h : r.params.length ≠ 2) (p : Port) (s : State) :
    State.judgeMove p s r = Reply.refuse s .malformed := by
  unfold State.judgeMove
  split
  next bytes => exact absurd (congrArg List.length bytes) h
  next => rfl

/-- A MOVE with its distance is judged on the distance, the sender, the freeze, the hold and the fitted lanes, and
grants the distance from the axis as it stands. -/
theorem State.takeRequest_move {s : State} {p : Port} {r : Request} (h : s.hands p r 0x28) {hi lo : Byte}
    (hb : r.params = [hi, lo]) :
    s.takeRequest p 0x28 (State.judgeMove p) = s.afterJudging p r
      [(decide ((Operands.word hi lo).toNat < 1 ∨ 20000 < (Operands.word hi lo).toNat), .malformed),
       (s.notTravel p, .noRight), (s.frozen, .frozen), (decide (s.hold ≠ .free), .wrongState),
       (s.anyFitted fun l => l.state.isFault, .wrongState),
       (s.anyFitted fun l => l.state.isDown || l.tdnActive, .lanesDown),
       (s.anyFitted fun l => l.state.claimedOrOrphaned?.isSome, .claimsOpen)]
      (((s.unqueues p).grant (Operands.word hi lo).toNat).answers p r .accepted
        (Operands.carryAxis s.axis.axis ++ [hi, lo, BitVec.ofNat 8 s.motion.state.code])) := by
  rw [State.takeRequest_of_hands h]
  simp only [State.judgeMove, hb, State.move, State.respond_judge, State.respond_answer, State.unqueues_keeps,
    State.unqueues_conditions, State.unqueues_ofPort, State.unqueues_anyFitted, Operands.carry2_word, Operands.carry1,
    List.append_assoc, List.cons_append, List.nil_append]

/-! ### STOP (R115) -/

theorem exec_stop (p : Port) (s : State) : exec (.stop p) s = .next (s.takeRequest p 0x29 (State.judgeStop p)) := rfl

theorem State.judgeStop_of_params {r : Request} (h : r.params ≠ []) (p : Port) (s : State) :
    State.judgeStop p s r = Reply.refuse s .malformed := by
  unfold State.judgeStop
  split
  next empty => exact absurd empty h
  next => rfl

/-- A STOP is judged on the sender alone, and answers the state before it and the halt point after it. -/
theorem State.takeRequest_stop {s : State} {p : Port} {r : Request} (h : s.hands p r 0x29) (hb : r.params = []) :
    s.takeRequest p 0x29 (State.judgeStop p) = s.afterJudging p r [(s.notTravel p, .noRight)]
      ((s.unqueues p).stop.answers p r .accepted
        (BitVec.ofNat 8 s.motion.state.code :: Operands.carryAxis (s.unqueues p).stop.motion.haltPoint)) := by
  rw [State.takeRequest_of_hands h]
  simp only [State.judgeStop, hb, State.respond_judge, State.respond_answer, State.unqueues_keeps,
    State.unqueues_ofPort, Operands.carry1, List.cons_append, List.nil_append]

theorem State.takeRequest_stop_noRight {s : State} {p : Port} {r : Request} (h : s.hands p r 0x29) (hb : r.params = [])
    (sender : s.roleOf p ≠ .travel) :
    s.takeRequest p 0x29 (State.judgeStop p) = (s.refuses p r .noRight).settle := by
  rw [State.takeRequest_stop h hb]
  exact State.afterJudging_of_lowest (by simp [State.notTravel, sender]) (by simp) s p r _

/-- Nothing but the sender's role can refuse a STOP: neither the freeze, nor the hold, nor a lane. -/
theorem State.takeRequest_stop_accepted {s : State} {p : Port} {r : Request} (h : s.hands p r 0x29) (hb : r.params = [])
    (sender : s.roleOf p = .travel) :
    s.takeRequest p 0x29 (State.judgeStop p) = ((s.unqueues p).stop.answers p r .accepted
      (BitVec.ofNat 8 s.motion.state.code :: Operands.carryAxis (s.unqueues p).stop.motion.haltPoint)).settle := by
  rw [State.takeRequest_stop h hb]
  exact State.afterJudging_of_passes (by simp [State.notTravel, sender]) s p r _

theorem State.stop_of_halt {s : State} (halted : s.motion.state = .halt) : s.stop = s := by
  simp [State.stop, halted, MotionState.isGranted]

theorem State.stop_of_granted {s : State} {start : Int} {d : Nat} (granted : s.motion.state = .granted start d) :
    s.stop = s.haltAtAxis := by
  simp [State.stop, granted, MotionState.isGranted]

/-! ### The statement of both -/

/-- Settles O37. MOVE is judged by `takeRequest_move`, whose last three checks ask for a fitted lane in a state each;
STOP does what the motion state it finds says (`stop_of_halt`, `stop_of_granted`). -/
theorem moveAndStopAreTaken : Obligations.MoveAndStopAreTaken := by
  refine ⟨fun p r s hands => ?move, fun p r s hands => ?stop⟩
  case move =>
    rw [exec_move]
    refine ⟨fun length => ?_, fun hi lo bytes => ?_⟩
    · rw [State.takeRequest_of_hands hands, State.judgeMove_of_length length, State.respond_refuse]
    · refine ⟨s.anyFitted fun l => l.state.isFault, s.anyFitted fun l => l.state.isDown || l.tdnActive,
        s.anyFitted fun l => l.state.claimedOrOrphaned?.isSome, ?_, ?_, ?_, ?_⟩
      · simp only [State.anyFitted_eq_true_iff, LaneState.isFault_iff]
      · simp only [State.anyFitted_eq_true_iff, Bool.or_eq_true]
      · simp only [State.anyFitted_eq_true_iff, LaneState.claimedOrOrphaned?_isSome_iff]
      · rw [State.takeRequest_move hands bytes]
        rfl
  case stop =>
    rw [exec_stop]
    refine ⟨fun params => ?_, fun empty sender => ?_, fun empty sender halted => ?_,
      fun start d empty sender granted => ?_⟩
    · rw [State.takeRequest_of_hands hands, State.judgeStop_of_params params, State.respond_refuse]
    · rw [State.takeRequest_stop_noRight hands empty sender]
    · rw [State.takeRequest_stop_accepted hands empty sender, State.stop_of_halt (s := s.unqueues p) halted, halted]
      rfl
    · rw [State.takeRequest_stop_accepted hands empty sender, State.stop_of_granted (s := s.unqueues p) granted,
        granted]
      rfl

end Sys2Proof.Machine
end

section
/-! PROOFS. FREEZE (R128). -/

namespace Sys2Proof.Machine

theorem exec_freeze (p : Port) (s : State) :
    exec (.freeze p) s = .next (s.takeRequest p 0x0C (State.judgeFreeze p)) := rfl

theorem State.judgeFreeze_of_length {r : Request} (h : r.params.length ≠ 1) (p : Port) (s : State) :
    State.judgeFreeze p s r = Reply.refuse s .malformed := by
  unfold State.judgeFreeze
  split
  next key => exact absurd (congrArg List.length key) h
  next => rfl

/-- A FREEZE with its key byte is judged on the sender's FREEZE right and on the key alone. Its cause is handed once the
frame has left the queue, and the answer carries the freeze state before it and the cause in the record after it. -/
theorem State.takeRequest_freeze {s : State} {p : Port} {r : Request} (h : s.hands p r 0x0C) {key : Byte}
    (hb : r.params = [key]) :
    s.takeRequest p 0x0C (State.judgeFreeze p) = s.afterJudging p r
      [(!(s.portRole p).freeze, .noRight), (decide (key ≠ 0x3C), .badKey)]
      (((s.unqueues p).handCause .request (.port p) none).answers p r .accepted
        [BitVec.ofNat 8 s.freeze.state.code,
          BitVec.ofNat 8 ((s.unqueues p).handCause .request (.port p) none).freeze.cause.code]) := by
  rw [State.takeRequest_of_hands h]
  simp only [State.judgeFreeze, hb, State.requestFreeze, State.respond_judge, State.respond_answer,
    State.unqueues_keeps, State.unqueues_ofPort, Operands.carry1, List.cons_append, List.nil_append]

/-- Settles O39. A wrong length is refused before the checks. NO_RIGHT has a lower code than BAD_KEY, so the key does not
tell where the sender has not the right; with the right and the key no check is left to fail. -/
theorem freezeRequestHandsRequest : Obligations.FreezeRequestHandsRequest := by
  intro p r s hands
  refine ⟨fun length => ?malformed, fun key bytes => ⟨fun right => ?noRight, fun right wrong => ?badKey,
    fun right correct => ?accepted⟩⟩
  case malformed =>
    rw [exec_freeze, State.takeRequest_of_hands hands, State.judgeFreeze_of_length length, State.respond_refuse]
  all_goals rw [exec_freeze, State.takeRequest_freeze hands bytes, right]
  case noRight =>
    have least : ∀ d, (true, d) ∈ [(!false, Result.noRight), (decide (key ≠ 0x3C), .badKey)] →
        Result.noRight.code ≤ d.code := by
      simp only [List.mem_cons, Prod.mk.injEq, List.not_mem_nil, or_false]
      rintro d (⟨-, rfl⟩ | ⟨-, rfl⟩) <;> simp [Result.code]
    rw [State.afterJudging_of_lowest (by simp) least]
  case badKey => rw [decide_eq_true wrong, State.afterJudging_of_lowest (c := .badKey) (by simp) (by simp)]
  case accepted => rw [State.afterJudging_of_passes (by simp [correct])]

end Sys2Proof.Machine
end

section
/-! PROOFS. What the invariants of the list, the claims, the hold and the grant read of a state, and the moves that change
it. Every step is a sequence of these moves, so an invariant is proved once for each move and not once for each command. -/

namespace Sys2Proof.Machine

/-! ### The blocks -/

/-- A lane state with its down timer set aside. -/
def LaneState.untimed : LaneState → LaneState
  | .down q _ => .down q 0
  | .off => .off
  | .idle => .idle
  | .claimed q => .claimed q
  | .orphaned q => .orphaned q
  | .fault => .fault

/-- A hold state with its timer and its lift target copy set aside. -/
def HoldState.untimed : HoldState → HoldState
  | .free => .free
  | .lifting q _ _ => .lifting q ⟨0, 0, 0⟩ 0
  | .held q _ _ => .held q ⟨0, 0, 0⟩ none
  | .opening q _ => .opening q ⟨0, 0, 0⟩

/-- The part of a state that the invariants of R33, R55, R57, R66, R69, R75, R95 and R112 read. -/
structure Blocks where
  entries : List Entry
  created : Count32
  departed : Count32
  flushed : Count32
  passages : PassageList
  lane : Lane → LaneState
  tines : Lane → Bool
  hold : HoldState
  granted : Bool
  freeze : FreezeState
  fitted : Lane → Bool

def State.blocks (s : State) : Blocks where
  entries := s.list.entries
  created := s.list.created
  departed := s.list.departed
  flushed := s.list.flushed
  passages := s.passages
  lane x := (s.lane x).state.untimed
  tines x := (s.lane x).tdnActive
  hold := s.hold.untimed
  granted := s.motion.state.isGranted
  freeze := s.freeze.state
  fitted := s.isFitted

/-! ### Writes -/

/-- The entries with the one that has this seq rewritten. -/
def SleeperList.rewrite (q : SeqNo) (f : Entry → Entry) (es : List Entry) : List Entry :=
  es.map fun e => if e.seq = q then f e else e

/-- An entry with one lane's record rewritten. -/
def Entry.onLane (x : Lane) (f : LaneRecord → LaneRecord) (e : Entry) : Entry := { e with lanes := e.lanes.modify x f }

/-- A lane record with this status. -/
def LaneRecord.withStatus (st : LaneStatus) (r : LaneRecord) : LaneRecord := { r with status := st }

/-- A lane record with one squeeze more. -/
def LaneRecord.squeezed (r : LaneRecord) : LaneRecord := { r with squeezes := r.squeezes + 1 }

/-- The Passage List after it has taken a record (R61, R62). -/
def PassageList.takes (l : PassageList) (r : PassageRecord) : PassageList :=
  if l.records.length < 32 then { l with records := l.records ++ [r] }
  else { l with records := l.records.tail ++ [r], discarded := l.discarded + 1 }

/-- The entry that a lane state names, marked FAILED for the lane (R83). -/
def SleeperList.failNamed (x : Lane) (named : Option SeqNo) (es : List Entry) : List Entry :=
  match named with
  | none => es
  | some q => SleeperList.rewrite q (Entry.onLane x (LaneRecord.withStatus .failed)) es

/-! ### The moves -/

/-- Distinct seqs and rising positions, the part of R33 that says where a new entry belongs. -/
def SleeperList.rising (es : List Entry) : Prop := es.Pairwise fun e f => e.position < f.position

/-- What a lane is after a write of the lanes fitted: as before where its fitting stays, IDLE or FAULT where it is newly
fitted, with its tines up in IDLE, and OFF where it is no longer fitted (R70). -/
def Blocks.refits (was is : Bool) (before after : LaneState) (tines : Bool) : Prop :=
  (was = is ∧ after = before) ∨
  (was = false ∧ is = true ∧ (after = .idle ∧ tines = false ∨ after = .fault)) ∨
  (was = true ∧ is = false ∧ after = .off)

/-- Two forms of one entry, alike in all that the invariants read of it. -/
def Entry.alike (e f : Entry) : Prop :=
  f.seq = e.seq ∧ f.position = e.position ∧
    ∀ x, (f.lanes.get x).status = (e.lanes.get x).status ∧ (f.lanes.get x).squeezes = (e.lanes.get x).squeezes

/-- Two lists of entries alike in pairs. -/
inductive Entry.AlikeAll : List Entry → List Entry → Prop
  | nil : AlikeAll [] []
  | cons {e f : Entry} {es fs : List Entry} (head : e.alike f) (tail : AlikeAll es fs) : AlikeAll (e :: es) (f :: fs)

/-- What is held for each lane, rewritten for one. -/
def Lane.update {α : Type} (f : Lane → α) (x : Lane) (v : α) : Lane → α := fun y => if y = x then v else f y

/-- One change of the blocks that a command can bring about. `spaced` says that entries stand apart under the live
settings, which PLACE relies on (R43). -/
inductive Blocks.Move (spaced : Prop) : Blocks → Blocks → Prop
  /-- Writes to entries that touch no seq, no position, no status and no squeezes. -/
  | rewrites (b : Blocks) (entries : List Entry) (keeps : Entry.AlikeAll b.entries entries) :
      Move spaced b { b with entries := entries }
  /-- An entry that no lane has claimed and that the hold does not name departs (R45, R48, R52). -/
  | departs (b : Blocks) (before : List Entry) (e : Entry) (after : List Entry) (o : PassageOutcome)
      (held : b.entries = before ++ e :: after) (free : ∀ x, (e.lanes.get x).status ≠ .claimed)
      (unnamed : b.hold.named? ≠ some e.seq) :
      Move spaced b { b with
        entries := before ++ after, departed := b.departed + 1, passages := b.passages.takes (e.passage o) }
  /-- A new entry at its place (R34 to R37). -/
  | creates (b : Blocks) (e : Entry) (room : b.entries.length < 48) (fresh : e.seq ∉ b.entries.map Entry.seq)
      (untouched : ∀ x, (e.lanes.get x).status = .unclaimed ∧ (e.lanes.get x).squeezes = 0)
      (apart : SleeperList.rising b.entries → spaced → ∀ f ∈ b.entries, f.position ≠ e.position) :
      Move spaced b { b with entries := SleeperList.insert e b.entries, created := b.created + 1 }
  /-- FLUSH in a quiescent part (R56). -/
  | flushes (b : Blocks) (free : b.hold = .free) (idle : ∀ x, b.fitted x = true → b.lane x = .idle) :
      Move spaced b { b with entries := [], flushed := b.flushed + BitVec.ofNat 32 b.entries.length }
  /-- The oldest records are taken (R64). -/
  | takesOldest (b : Blocks) (n : Nat) :
      Move spaced b { b with passages := { b.passages with
        records := b.passages.records.drop n
        taken := b.passages.taken + BitVec.ofNat 32 (b.passages.records.take n).length } }
  /-- A cause taken in RUN (R117, R125). -/
  | freezes (b : Blocks) : Move spaced b { b with freeze := .frozen, granted := false }
  /-- A grant ends (R115, R116). -/
  | halts (b : Blocks) : Move spaced b { b with granted := false }
  /-- A grant is given (R113, R114). -/
  | grants (b : Blocks) (run : b.freeze = .run) (free : b.hold = .free)
      (idle : ∀ x, b.fitted x = true → b.lane x = .idle ∨ b.lane x = .off) : Move spaced b { b with granted := true }
  /-- THAW has revoked what it revokes (R130). -/
  | thaws (b : Blocks) (frozen : b.freeze = .frozen) : Move spaced b { b with freeze := .run }
  /-- A lane enters FAULT, its entry fails and a grant ends (R83, R117). -/
  | faults (b : Blocks) (x : Lane) (tines : Bool) (on : b.lane x ≠ .off) :
      Move spaced b { b with
        entries := SleeperList.failNamed x (b.lane x).named? b.entries
        lane := Lane.update b.lane x .fault, tines := Lane.update b.tines x tines, granted := false }
  /-- The debounced level changes on a lane that it does not move: to any level in OFF and FAULT, to inactive in IDLE and
  CLAIMED, to active in DOWN (R74, R75). -/
  | levels (b : Blocks) (x : Lane) (tines : Bool)
      (still : (b.lane x = .off ∨ b.lane x = .fault) ∨ (tines = false ∧ (b.lane x = .idle ∨ ∃ q, b.lane x = .claimed q)) ∨
        (tines = true ∧ ∃ q, b.lane x = .down q 0)) :
      Move spaced b { b with tines := Lane.update b.tines x tines }
  /-- A permitted descent (R74). -/
  | descends (b : Blocks) (x : Lane) (e : Entry) (held : e ∈ b.entries) (claimed : b.lane x = .claimed e.seq)
      (standing : b.hold.heldOn e.seq = true) (below : (e.lanes.get x).squeezes < 3) :
      Move spaced b { b with
        lane := Lane.update b.lane x (.down e.seq 0), tines := Lane.update b.tines x true }
  /-- A release in DOWN or ORPHANED counts a squeeze (R75). -/
  | squeezes (b : Blocks) (x : Lane) (q : SeqNo) (l : LaneState) (level : b.tines x = true)
      (naming : b.lane x = .down q 0 ∧ l = .claimed q ∨ b.lane x = .orphaned q ∧ l = .orphaned q) :
      Move spaced b { b with
        entries := SleeperList.rewrite q (Entry.onLane x LaneRecord.squeezed) b.entries
        lane := Lane.update b.lane x l, tines := Lane.update b.tines x false }
  /-- CLAIM (R77, R78). -/
  | claims (b : Blocks) (x : Lane) (e : Entry) (held : e ∈ b.entries) (idle : b.lane x = .idle)
      (ungranted : b.granted = false) :
      Move spaced b { b with
        entries := SleeperList.rewrite e.seq (Entry.onLane x (LaneRecord.withStatus .claimed)) b.entries
        lane := Lane.update b.lane x (.claimed e.seq) }
  /-- A claim ends with another status, tines up (R79, R80, R82, R89). -/
  | endsClaim (b : Blocks) (x : Lane) (q : SeqNo) (st : LaneStatus) (ended : st ≠ .claimed)
      (naming : b.lane x = .claimed q ∨ b.lane x = .orphaned q ∧ b.tines x = false) :
      Move spaced b { b with
        entries := SleeperList.rewrite q (Entry.onLane x (LaneRecord.withStatus st)) b.entries
        lane := Lane.update b.lane x .idle }
  /-- WAIVE by an idle lane (R80). -/
  | waives (b : Blocks) (x : Lane) (q : SeqNo) (idle : b.lane x = .idle) :
      Move spaced b { b with
        entries := SleeperList.rewrite q (Entry.onLane x (LaneRecord.withStatus .waived)) b.entries }
  /-- ADOPT, the loss of a lane's port, and CLEAR LANE in FAULT: nothing but the lane state changes (R81, R82, R86). -/
  | relanes (b : Blocks) (x : Lane) (l : LaneState)
      (turn : (∃ q, b.lane x = .orphaned q ∧ l = .claimed q ∧ b.tines x = false) ∨
        (∃ q, (b.lane x = .claimed q ∨ b.lane x = .down q 0) ∧ l = .orphaned q) ∨
        (b.lane x = .fault ∧ l = .idle ∧ b.tines x = false)) :
      Move spaced b { b with lane := Lane.update b.lane x l }
  /-- HOLD TAKE (R97). -/
  | lifts (b : Blocks) (e : Entry) (held : e ∈ b.entries) (free : b.hold = .free) (ungranted : b.granted = false) :
      Move spaced b { b with hold := .lifting e.seq ⟨0, 0, 0⟩ 0 }
  /-- HOLD SET (R100). -/
  | stands (b : Blocks) (q : SeqNo) (lifting : b.hold = .lifting q ⟨0, 0, 0⟩ 0) :
      Move spaced b { b with hold := .held q ⟨0, 0, 0⟩ none }
  /-- HOLD DROP or the lift timer (R99, R103). -/
  | opens (b : Blocks) (q : SeqNo)
      (named : b.hold = .lifting q ⟨0, 0, 0⟩ 0 ∨ b.hold.named? = some q ∧ ∀ x, b.lane x ≠ .down q 0) :
      Move spaced b { b with hold := .opening q ⟨0, 0, 0⟩ }
  /-- HOLD CLEAR (R104). -/
  | frees (b : Blocks) (q : SeqNo) (opening : b.hold = .opening q ⟨0, 0, 0⟩) : Move spaced b { b with hold := .free }
  /-- A write of the lanes fitted while every fitted lane is IDLE (R70). -/
  | refits (b : Blocks) (lane : Lane → LaneState) (fitted : Lane → Bool) (granted : Bool) (freeze : FreezeState)
      (idle : ∀ x, b.fitted x = true → b.lane x = .idle)
      (each : ∀ x, Blocks.refits (b.fitted x) (fitted x) (b.lane x) (lane x) (b.tines x))
      (kept : granted = true → b.granted = true ∧ freeze = b.freeze ∧ ∀ x, fitted x = true → lane x ≠ .fault) :
      Move spaced b { b with lane := lane, fitted := fitted, granted := granted, freeze := freeze }
  /-- A reset (R159, R160). -/
  | resets (b : Blocks) (fitted : Lane → Bool) :
      Move spaced b ⟨[], 0, 0, 0, ⟨[], 0, 0⟩, fun x => if fitted x then .idle else .off, fun _ => false, .free, false,
        .frozen, fitted⟩

/-- A sequence of moves. -/
inductive Blocks.Path (spaced : Prop) (b : Blocks) : Blocks → Prop
  | refl : Path spaced b b
  | tail {c d : Blocks} (path : Path spaced b c) (move : Blocks.Move spaced c d) : Path spaced b d

/-- From s to t the blocks change by a sequence of moves. -/
def State.moves (spaced : Prop) (s t : State) : Prop :=
  Blocks.Path spaced s.blocks t.blocks

end Sys2Proof.Machine
end

section
/-! PROOFS. The invariants of the blocks (R33, R55, R57, R66, R69, R75, R95, R112): each is read from the blocks alone, and
every move keeps it. -/

namespace Sys2Proof.Machine

/-! ### What is held for each lane -/

@[simp] theorem Lane.update_self {α : Type} (f : Lane → α) (x : Lane) (v : α) : Lane.update f x v x = v := if_pos rfl

@[simp] theorem Lane.update_of_ne {α : Type} {x y : Lane} (other : y ≠ x) (f : Lane → α) (v : α) :
    Lane.update f x v y = f y :=
  if_neg other

@[simp] theorem Lane.update_eq_self {α : Type} (x : Lane) (f : Lane → α) : Lane.update f x (f x) = f := by
  funext y
  by_cases here : y = x
  · rw [here, Lane.update_self]
  · rw [Lane.update_of_ne here]

@[simp] theorem Lane.update_idem {α : Type} (f : Lane → α) (x : Lane) (v w : α) :
    Lane.update (Lane.update f x v) x w = Lane.update f x w := by
  funext y
  by_cases here : y = x
  · rw [here, Lane.update_self, Lane.update_self]
  · rw [Lane.update_of_ne here, Lane.update_of_ne here, Lane.update_of_ne here]

/-! ### The invariants, read from the blocks -/

/-- A lane is OFF exactly when it is not fitted (R68, R70). -/
def Blocks.offUnfitted (b : Blocks) : Prop := ∀ x, b.lane x = .off ↔ b.fitted x = false

/-- A lane names an entry exactly where that entry's status for the lane is CLAIMED (R69). -/
def Blocks.claimsMatch (b : Blocks) : Prop :=
  (∀ x q, (b.lane x).named? = some q → ∃ e ∈ b.entries, e.seq = q ∧ (e.lanes.get x).status = .claimed)
    ∧ ∀ x, ∀ e ∈ b.entries, (e.lanes.get x).status = .claimed → (b.lane x).named? = some e.seq

def Blocks.claimsHold (b : Blocks) : Prop :=
  b.entries.length ≤ 48 ∧ (b.entries.map Entry.seq).Nodup ∧ b.offUnfitted ∧ b.claimsMatch

def Blocks.holdStands (b : Blocks) : Prop :=
  (∀ q, b.hold.named? = some q → ∃ e ∈ b.entries, e.seq = q) ∧ ∀ x q, b.lane x = .down q 0 → b.hold.heldOn q = true

def Blocks.grantSafe (b : Blocks) : Prop :=
  b.offUnfitted ∧ (b.granted = true → b.freeze = .run ∧ b.hold = .free ∧ ∀ x, b.fitted x = true → b.lane x = .idle)

/-- The debounced level is inactive in IDLE and CLAIMED, and active in DOWN (R74, R81). -/
def LaneState.allows (l : LaneState) (tines : Bool) : Prop :=
  (l = .idle → tines = false) ∧ (∀ q, l = .claimed q → tines = false) ∧ ∀ q, l = .down q 0 → tines = true

def Blocks.tinesKnown (b : Blocks) : Prop := ∀ x, (b.lane x).allows (b.tines x)

def Blocks.squeezesBounded (b : Blocks) : Prop :=
  (∀ e ∈ b.entries, ∀ x, (e.lanes.get x).squeezes ≤ 3) ∧ (∀ r ∈ b.passages.records, ∀ x, (r.lanes.get x).squeezes ≤ 3)
    ∧ ∀ x q, b.tines x = true → (b.lane x).named? = some q →
        ∀ e ∈ b.entries, e.seq = q → (e.lanes.get x).squeezes < 3

def Blocks.squeezesHold (b : Blocks) : Prop := b.claimsHold ∧ b.tinesKnown ∧ b.squeezesBounded

def Blocks.listOrdered (b : Blocks) : Prop :=
  b.entries.length ≤ 48 ∧ (b.entries.map Entry.seq).Nodup ∧ SleeperList.rising b.entries

def Blocks.countsAgree (b : Blocks) : Prop :=
  b.created = BitVec.ofNat 32 b.entries.length + b.departed + b.flushed
    ∧ b.departed = BitVec.ofNat 32 b.passages.records.length + b.passages.taken + b.passages.discarded
    ∧ b.passages.records.length ≤ 32

/-! ### What setting the timers aside leaves -/

@[simp] theorem LaneState.untimed_named? (l : LaneState) : l.untimed.named? = l.named? := by cases l <;> rfl

@[simp] theorem LaneState.untimed_eq_off (l : LaneState) : l.untimed = .off ↔ l = .off := by
  cases l <;> simp [LaneState.untimed]

@[simp] theorem LaneState.untimed_eq_idle (l : LaneState) : l.untimed = .idle ↔ l = .idle := by
  cases l <;> simp [LaneState.untimed]

@[simp] theorem LaneState.untimed_eq_fault (l : LaneState) : l.untimed = .fault ↔ l = .fault := by
  cases l <;> simp [LaneState.untimed]

@[simp] theorem LaneState.untimed_eq_claimed (l : LaneState) (q : SeqNo) : l.untimed = .claimed q ↔ l = .claimed q := by
  cases l <;> simp [LaneState.untimed]

@[simp] theorem LaneState.untimed_eq_orphaned (l : LaneState) (q : SeqNo) : l.untimed = .orphaned q ↔ l = .orphaned q := by
  cases l <;> simp [LaneState.untimed]

@[simp] theorem LaneState.untimed_eq_down (l : LaneState) (q : SeqNo) : l.untimed = .down q 0 ↔ ∃ ms, l = .down q ms := by
  cases l <;> simp [LaneState.untimed]

@[simp] theorem HoldState.untimed_named? (h : HoldState) : h.untimed.named? = h.named? := by cases h <;> rfl

@[simp] theorem HoldState.untimed_heldOn (h : HoldState) (q : SeqNo) : h.untimed.heldOn q = h.heldOn q := by cases h <;> rfl

@[simp] theorem HoldState.untimed_eq_free (h : HoldState) : h.untimed = .free ↔ h = .free := by
  cases h <;> simp [HoldState.untimed]

theorem State.claimsHold_iff (s : State) : s.claimsHold ↔ s.blocks.claimsHold := by
  simp [State.claimsHold, Blocks.claimsHold, State.offUnfitted, Blocks.offUnfitted, State.claimsMatch, Blocks.claimsMatch,
    State.blocks]

theorem State.holdStands_iff (s : State) : s.holdStands ↔ s.blocks.holdStands := by
  simp [State.holdStands, Blocks.holdStands, State.blocks]

theorem State.grantSafe_iff (s : State) : s.grantSafe ↔ s.blocks.grantSafe := by
  simp [State.grantSafe, Blocks.grantSafe, State.offUnfitted, Blocks.offUnfitted, State.blocks]

theorem State.tinesKnown_iff (s : State) : s.tinesKnown ↔ s.blocks.tinesKnown := by
  refine forall_congr' fun x => ?_
  cases h : (s.lane x).state <;> simp [State.blocks, LaneState.allows, h, LaneState.untimed]

theorem State.squeezesHold_iff (s : State) : s.squeezesHold ↔ s.blocks.squeezesHold := by
  rw [State.squeezesHold, Blocks.squeezesHold, State.claimsHold_iff, State.tinesKnown_iff]
  simp [State.squeezesBounded, Blocks.squeezesBounded, State.blocks]

theorem State.listOrdered_iff (s : State) : s.listOrdered ↔ s.blocks.listOrdered := .rfl

theorem State.countsAgree_iff (s : State) : s.countsAgree ↔ s.blocks.countsAgree := .rfl

/-! ### Entries rewritten, inserted and removed -/

theorem SleeperList.mem_rewrite {q : SeqNo} {f : Entry → Entry} {es : List Entry} {e' : Entry} :
    e' ∈ SleeperList.rewrite q f es ↔ ∃ e ∈ es, (if e.seq = q then f e else e) = e' := by
  simp [SleeperList.rewrite]

@[simp] theorem SleeperList.length_rewrite (q : SeqNo) (f : Entry → Entry) (es : List Entry) :
    (SleeperList.rewrite q f es).length = es.length := by
  simp [SleeperList.rewrite]

/-- A write that keeps the seq of each entry keeps the seqs of the list. -/
theorem SleeperList.map_seq_rewrite {q : SeqNo} {f : Entry → Entry} (keeps : ∀ e, (f e).seq = e.seq) (es : List Entry) :
    (SleeperList.rewrite q f es).map Entry.seq = es.map Entry.seq := by
  rw [SleeperList.rewrite, List.map_map]
  refine List.map_congr_left fun e _ => ?_
  simp only [Function.comp_apply]
  split
  · exact keeps e
  · rfl

/-- A write that keeps the position of each entry keeps the positions rising. -/
theorem SleeperList.rising_rewrite {q : SeqNo} {f : Entry → Entry} (keeps : ∀ e, (f e).position = e.position)
    (es : List Entry) : SleeperList.rising (SleeperList.rewrite q f es) ↔ SleeperList.rising es := by
  have position (e : Entry) : (if e.seq = q then f e else e).position = e.position := by
    split
    · exact keeps e
    · rfl
  simp only [SleeperList.rising, SleeperList.rewrite, List.pairwise_map, position]

/-- Inserting puts one entry among the others. -/
theorem SleeperList.insert_perm (e : Entry) (es : List Entry) : (SleeperList.insert e es).Perm (e :: es) := by
  induction es with
  | nil => exact .refl _
  | cons f rest ih =>
    unfold SleeperList.insert
    split
    · exact .refl _
    · exact (ih.cons f).trans (.swap e f rest)

@[simp] theorem SleeperList.mem_insert {e f : Entry} {es : List Entry} : f ∈ SleeperList.insert e es ↔ f = e ∨ f ∈ es :=
  (SleeperList.insert_perm e es).mem_iff.trans List.mem_cons

/-- An entry at a position that no other has finds its place among rising positions. -/
theorem SleeperList.rising_insert {e : Entry} {es : List Entry} (rising : SleeperList.rising es)
    (apart : ∀ f ∈ es, f.position ≠ e.position) : SleeperList.rising (SleeperList.insert e es) := by
  induction es with
  | nil => exact List.pairwise_singleton _ _
  | cons f rest ih =>
    obtain ⟨f_below, rest_rising⟩ := List.pairwise_cons.1 rising
    unfold SleeperList.insert
    split
    next below =>
      refine List.pairwise_cons.2 ⟨fun g mem => ?_, rising⟩
      rcases List.mem_cons.1 mem with rfl | later
      · exact below
      · exact Int.lt_trans below (f_below g later)
    next above =>
      refine List.pairwise_cons.2 ⟨fun g mem => ?_, ih rest_rising fun g mem => apart g (List.mem_cons_of_mem f mem)⟩
      rcases SleeperList.mem_insert.1 mem with rfl | later
      · exact Int.lt_iff_le_and_ne.2 ⟨Int.not_lt.1 above, apart f List.mem_cons_self⟩
      · exact f_below g later

/-- What a write of one lane's record does to another lane's record. -/
theorem Entry.onLane_get (x y : Lane) (f : LaneRecord → LaneRecord) (e : Entry) :
    (e.onLane x f).lanes.get y = if y = x then f (e.lanes.get x) else e.lanes.get y := by
  simp [Entry.onLane]

@[simp] theorem Entry.onLane_seq (x : Lane) (f : LaneRecord → LaneRecord) (e : Entry) : (e.onLane x f).seq = e.seq := rfl

@[simp] theorem Entry.onLane_position (x : Lane) (f : LaneRecord → LaneRecord) (e : Entry) :
    (e.onLane x f).position = e.position := rfl

@[simp] theorem SleeperList.map_seq_failNamed (x : Lane) (named : Option SeqNo) (es : List Entry) :
    (SleeperList.failNamed x named es).map Entry.seq = es.map Entry.seq := by
  cases named with
  | none => rfl
  | some q => exact SleeperList.map_seq_rewrite (Entry.onLane_seq x _) es

@[simp] theorem SleeperList.length_failNamed (x : Lane) (named : Option SeqNo) (es : List Entry) :
    (SleeperList.failNamed x named es).length = es.length := by
  cases named <;> simp [SleeperList.failNamed]

/-- Whether a seq is held depends on the seqs alone. -/
theorem SleeperList.holds_congr {es es' : List Entry} (same : es'.map Entry.seq = es.map Entry.seq) (q : SeqNo) :
    (∃ e ∈ es', e.seq = q) ↔ ∃ e ∈ es, e.seq = q := by
  have iff (l : List Entry) : (∃ e ∈ l, e.seq = q) ↔ q ∈ l.map Entry.seq := by simp
  rw [iff, iff, same]

/-- A seq names one entry of a list of distinct seqs. -/
theorem SleeperList.eq_of_seq {es : List Entry} (distinct : (es.map Entry.seq).Nodup) {e f : Entry} (mem : e ∈ es)
    (mem' : f ∈ es) (same : e.seq = f.seq) : e = f := by
  induction es with
  | nil => cases mem
  | cons g rest ih =>
    obtain ⟨fresh, distinct'⟩ := List.nodup_cons.1 distinct
    rcases List.mem_cons.1 mem with rfl | later <;> rcases List.mem_cons.1 mem' with rfl | later'
    · rfl
    · exact absurd (same ▸ List.mem_map_of_mem later') fresh
    · exact absurd (same ▸ List.mem_map_of_mem later) fresh
    · exact ih distinct' later later'

/-- Entries alike have the same seqs. -/
theorem SleeperList.map_seq_alike {es es' : List Entry} (alike : Entry.AlikeAll es es') :
    es'.map Entry.seq = es.map Entry.seq := by
  induction alike with
  | nil => rfl
  | cons h _ ih => simp [ih, h.1]

theorem Entry.AlikeAll.length_eq {es es' : List Entry} (alike : Entry.AlikeAll es es') : es'.length = es.length := by
  induction alike with
  | nil => rfl
  | cons _ _ ih => rw [List.length_cons, List.length_cons, ih]

theorem SleeperList.mem_alike {es es' : List Entry} (alike : Entry.AlikeAll es es') :
    (∀ e ∈ es, ∃ e' ∈ es', Entry.alike e e') ∧ ∀ e' ∈ es', ∃ e ∈ es, Entry.alike e e' := by
  induction alike with
  | nil => simp
  | cons h _ ih =>
    obtain ⟨there, back⟩ := ih
    refine ⟨fun e mem => ?_, fun f mem => ?_⟩
    · rcases List.mem_cons.1 mem with rfl | later
      · exact ⟨_, List.mem_cons_self, h⟩
      · obtain ⟨f, mem', same⟩ := there e later
        exact ⟨f, List.mem_cons_of_mem _ mem', same⟩
    · rcases List.mem_cons.1 mem with rfl | later
      · exact ⟨_, List.mem_cons_self, h⟩
      · obtain ⟨e, mem', same⟩ := back f later
        exact ⟨e, List.mem_cons_of_mem _ mem', same⟩

theorem SleeperList.rising_alike {es es' : List Entry} (alike : Entry.AlikeAll es es')
    (rising : SleeperList.rising es) : SleeperList.rising es' := by
  induction alike with
  | nil => exact rising
  | cons h tail ih =>
    obtain ⟨above, rest⟩ := List.pairwise_cons.1 rising
    refine List.pairwise_cons.2 ⟨fun f' mem => ?_, ih rest⟩
    obtain ⟨f, mem', same⟩ := (SleeperList.mem_alike tail).2 f' mem
    rw [h.2.1, same.2.1]
    exact above f mem'

/-! ### The list stays ordered (R33) -/

/-- No move brings a seq into the list twice, or a 49th entry. -/
theorem Blocks.Move.keeps_distinct {spaced : Prop} {b c : Blocks} (move : Blocks.Move spaced b c)
    (room : b.entries.length ≤ 48) (distinct : (b.entries.map Entry.seq).Nodup) :
    c.entries.length ≤ 48 ∧ (c.entries.map Entry.seq).Nodup := by
  have rewritten (q : SeqNo) (f : Entry → Entry) (seq : ∀ e, (f e).seq = e.seq) :
      (SleeperList.rewrite q f b.entries).length ≤ 48 ∧ ((SleeperList.rewrite q f b.entries).map Entry.seq).Nodup :=
    ⟨by simpa using room, by rwa [SleeperList.map_seq_rewrite seq]⟩
  cases move with
  | rewrites entries keeps =>
    have seqs := SleeperList.map_seq_alike keeps
    exact ⟨Nat.le_trans (Nat.le_of_eq keeps.length_eq) room, seqs ▸ distinct⟩
  | departs before e after o held =>
    have sub : (before ++ after).Sublist b.entries := by
      rw [held]
      exact (List.Sublist.refl before).append (List.sublist_cons_self e after)
    exact ⟨Nat.le_trans sub.length_le room, distinct.sublist (sub.map Entry.seq)⟩
  | creates e below fresh =>
    refine ⟨?_, ?_⟩
    · exact Nat.le_trans (Nat.le_of_eq (SleeperList.insert_perm e b.entries).length_eq) below
    · exact (((SleeperList.insert_perm e b.entries).map Entry.seq).nodup_iff).2 (List.nodup_cons.2 ⟨fresh, distinct⟩)
  | flushes | resets => exact ⟨by simp, by simp⟩
  | faults x tines on => exact ⟨by simpa using room, by simpa using distinct⟩
  | squeezes | claims | endsClaim | waives => exact rewritten _ _ fun _ => rfl
  | takesOldest | freezes | halts | grants | thaws | levels | descends | relanes | lifts | stands | opens | frees |
    refits => exact ⟨room, distinct⟩

theorem Blocks.Move.keeps_rising {spaced : Prop} (stands : spaced) {b c : Blocks} (move : Blocks.Move spaced b c)
    (rising : SleeperList.rising b.entries) : SleeperList.rising c.entries := by
  cases move with
  | rewrites entries keeps => exact SleeperList.rising_alike keeps rising
  | departs before e after o held =>
    have sub : (before ++ after).Sublist b.entries := by
      rw [held]
      exact (List.Sublist.refl before).append (List.sublist_cons_self e after)
    exact List.Pairwise.sublist sub rising
  | creates e below fresh _ apart => exact SleeperList.rising_insert rising (apart rising stands)
  | flushes | resets => exact List.Pairwise.nil
  | faults x tines on =>
    show SleeperList.rising (SleeperList.failNamed x (b.lane x).named? b.entries)
    cases (b.lane x).named? with
    | none => exact rising
    | some q => exact (SleeperList.rising_rewrite (Entry.onLane_position x _) _).2 rising
  | squeezes x | claims x | endsClaim x | waives x =>
    exact (SleeperList.rising_rewrite (Entry.onLane_position x _) _).2 rising
  | takesOldest | freezes | halts | grants | thaws | levels | descends | relanes | lifts | stands | opens | frees |
    refits => exact rising

theorem Blocks.Move.keeps_listOrdered {spaced : Prop} (stands : spaced) {b c : Blocks} (move : Blocks.Move spaced b c)
    (ordered : b.listOrdered) : c.listOrdered := by
  obtain ⟨room, distinct, rising⟩ := ordered
  obtain ⟨room', distinct'⟩ := move.keeps_distinct room distinct
  exact ⟨room', distinct', move.keeps_rising stands rising⟩

/-! ### The counters agree (R57, R66) -/

/-- A number one higher, modulo 2^32. -/
theorem Count32.ofNat_succ (n : Nat) : (BitVec.ofNat 32 (n + 1) : Count32) = BitVec.ofNat 32 n + 1 := BitVec.ofNat_add n 1

theorem PassageList.takes_agree {l : PassageList} (room : l.records.length ≤ 32) (r : PassageRecord) :
    (l.takes r).records.length ≤ 32 ∧
      BitVec.ofNat 32 (l.takes r).records.length + (l.takes r).taken + (l.takes r).discarded =
        BitVec.ofNat 32 l.records.length + l.taken + l.discarded + 1 := by
  unfold PassageList.takes
  split
  next below =>
    have length : (l.records ++ [r]).length = l.records.length + 1 := by
      rw [List.length_append, List.length_singleton]
    refine ⟨Nat.le_trans (Nat.le_of_eq length) below, ?_⟩
    rw [length, Count32.ofNat_succ]
    ac_rfl
  next full =>
    have length : l.records.length = 32 := by omega
    refine ⟨by simp [length], ?_⟩
    simp only [List.length_append, List.length_tail, List.length_singleton, length]
    ac_rfl

theorem Blocks.Move.keeps_countsAgree {spaced : Prop} {b c : Blocks} (move : Blocks.Move spaced b c)
    (agree : b.countsAgree) : c.countsAgree := by
  obtain ⟨created, departed, room⟩ := agree
  cases move with
  | departs before e after o held =>
    obtain ⟨room', agree'⟩ := PassageList.takes_agree room (e.passage o)
    refine ⟨?_, ?_, room'⟩
    · have length : b.entries.length = (before ++ after).length + 1 := by simp [held]; omega
      simp only [created, length, Count32.ofNat_succ]
      ac_rfl
    · simp only [agree', departed]
  | creates e =>
    refine ⟨?_, departed, room⟩
    simp only [(SleeperList.insert_perm e b.entries).length_eq, List.length_cons, created, Count32.ofNat_succ]
    ac_rfl
  | flushes =>
    refine ⟨?_, departed, room⟩
    have none_left : (BitVec.ofNat 32 ([] : List Entry).length : Count32) = 0 := rfl
    simp only [created, none_left, BitVec.ofNat_eq_ofNat, BitVec.zero_add]
    ac_rfl
  | takesOldest n =>
    refine ⟨created, ?_, by simp only [List.length_drop]; omega⟩
    have split_length : b.passages.records.length = (b.passages.records.drop n).length + (b.passages.records.take n).length := by
      simp only [List.length_drop, List.length_take]; omega
    simp only [departed]
    rw [split_length, BitVec.ofNat_add]
    ac_rfl
  | resets => exact ⟨rfl, rfl, Nat.zero_le 32⟩
  | rewrites entries keeps =>
    have length : entries.length = b.entries.length := keeps.length_eq
    exact ⟨by simpa [length] using created, departed, room⟩
  | squeezes | claims | endsClaim | waives => exact ⟨by simpa using created, departed, room⟩
  | faults => exact ⟨by simpa using created, departed, room⟩
  | freezes | halts | grants | thaws | levels | descends | relanes | lifts | stands | opens | frees |
    refits => exact ⟨created, departed, room⟩

/-! ### Claims and entry statuses agree (R69) -/

/-- Lanes that name what they named, over entries with the statuses they had, agree as before. -/
theorem Blocks.claimsMatch_of_same {b c : Blocks} (agree : b.claimsMatch)
    (named : ∀ x, (c.lane x).named? = (b.lane x).named?)
    (there : ∀ e ∈ b.entries, ∃ e' ∈ c.entries, e'.seq = e.seq ∧ ∀ x, (e'.lanes.get x).status = (e.lanes.get x).status)
    (back : ∀ e' ∈ c.entries, ∃ e ∈ b.entries, e.seq = e'.seq ∧ ∀ x, (e.lanes.get x).status = (e'.lanes.get x).status) :
    c.claimsMatch := by
  obtain ⟨names, claimed⟩ := agree
  refine ⟨fun x q naming => ?_, fun x e' mem status => ?_⟩
  · obtain ⟨e, mem, seq, status⟩ := names x q (named x ▸ naming)
    obtain ⟨e', mem', seq', status'⟩ := there e mem
    exact ⟨e', mem', seq'.trans seq, (status' x).trans status⟩
  · obtain ⟨e, mem', seq, status'⟩ := back e' mem
    rw [named, claimed x e mem' ((status' x).trans status), seq]

theorem Blocks.claimsMatch_of_rewrite {b : Blocks} (agree : b.claimsMatch) {q : SeqNo} {f : Entry → Entry}
    (seq : ∀ e, (f e).seq = e.seq) (status : ∀ e x, ((f e).lanes.get x).status = (e.lanes.get x).status) {c : Blocks}
    (entries : c.entries = SleeperList.rewrite q f b.entries) (named : ∀ x, (c.lane x).named? = (b.lane x).named?) :
    c.claimsMatch := by
  have same (e : Entry) : (if e.seq = q then f e else e).seq = e.seq ∧
      ∀ x, ((if e.seq = q then f e else e).lanes.get x).status = (e.lanes.get x).status := by
    split
    · exact ⟨seq e, status e⟩
    · exact ⟨rfl, fun _ => rfl⟩
  refine Blocks.claimsMatch_of_same agree named (fun e mem => ?_) fun e' mem => ?_
  · exact ⟨_, entries ▸ SleeperList.mem_rewrite.2 ⟨e, mem, rfl⟩, (same e).1, (same e).2⟩
  · obtain ⟨e, mem', rfl⟩ := SleeperList.mem_rewrite.1 (entries ▸ mem)
    exact ⟨e, mem', (same e).1.symm, fun x => ((same e).2 x).symm⟩

/-- One lane's status on one entry and what that lane names change together: CLAIMED where it then names the entry, and
another status where it names none. -/
theorem Blocks.claimsMatch_of_status {b : Blocks} (agree : b.claimsMatch) {x : Lane} {q : SeqNo} {st : LaneStatus}
    (before : (b.lane x).named? = none ∨ (b.lane x).named? = some q) {l : LaneState}
    (after : l.named? = if st = .claimed then some q else none) (held : st = .claimed → ∃ e ∈ b.entries, e.seq = q)
    {c : Blocks} (entries : c.entries = SleeperList.rewrite q (Entry.onLane x (LaneRecord.withStatus st)) b.entries)
    (lanes : c.lane = Lane.update b.lane x l) : c.claimsMatch := by
  obtain ⟨names, claimed⟩ := agree
  refine ⟨fun y q' naming => ?_, fun y e' mem status => ?_⟩
  · rw [lanes] at naming
    by_cases hy : y = x
    · subst hy
      rw [Lane.update_self, after] at naming
      split at naming
      next now =>
        obtain ⟨e, mem, rfl⟩ := held now
        obtain rfl := Option.some.inj naming
        refine ⟨_, entries ▸ SleeperList.mem_rewrite.2 ⟨e, mem, rfl⟩, ?_, ?_⟩
        · simp
        · simp [Entry.onLane_get, LaneRecord.withStatus, now]
      next => exact absurd naming (by simp)
    · rw [Lane.update_of_ne hy] at naming
      obtain ⟨e, mem, seq, status⟩ := names y q' naming
      refine ⟨_, entries ▸ SleeperList.mem_rewrite.2 ⟨e, mem, rfl⟩, ?_, ?_⟩
      · split <;> exact seq
      · split
        · simp [Entry.onLane_get, hy, status]
        · exact status
  · obtain ⟨e, mem', rfl⟩ := SleeperList.mem_rewrite.1 (entries ▸ mem)
    rw [lanes]
    by_cases hy : y = x
    · subst hy
      rw [Lane.update_self, after]
      split at status <;> rename_i hq
      · simp only [Entry.onLane_get, LaneRecord.withStatus, if_true] at status
        simp [status, hq]
      · have naming := claimed y e mem' status
        rcases before with none_named | q_named
        · simp [none_named] at naming
        · exact absurd (Option.some.inj (naming.symm.trans q_named)) hq
    · rw [Lane.update_of_ne hy]
      split at status
      · simp only [Entry.onLane_get, hy, if_false] at status
        rw [claimed y e mem' status]
        split <;> simp
      · rw [claimed y e mem' status]
        split <;> simp

/-- With every fitted lane IDLE and the unfitted ones OFF no lane names an entry. -/
theorem Blocks.names_none_of_idle {b : Blocks} (off : b.offUnfitted) (idle : ∀ x, b.fitted x = true → b.lane x = .idle)
    (x : Lane) : (b.lane x).named? = none := by
  cases h : b.fitted x with
  | true => rw [idle x h]; rfl
  | false => rw [(off x).2 h]; rfl

/-- A lane that stays on or off leaves OFF to the unfitted lanes. -/
theorem Blocks.offUnfitted_update {b c : Blocks} (off : b.offUnfitted) {x : Lane} {l : LaneState} (before : b.lane x ≠ .off)
    (after : l ≠ .off) (lanes : c.lane = Lane.update b.lane x l) (fitted : c.fitted = b.fitted) : c.offUnfitted := by
  intro y
  rw [lanes, fitted]
  by_cases hy : y = x
  · subst hy
    simp only [Lane.update_self, after, false_iff]
    exact fun unfitted => before ((off y).2 unfitted)
  · rw [Lane.update_of_ne hy]
    exact off y

/-- A write of the lanes fitted leaves OFF to the unfitted lanes. -/
theorem Blocks.offUnfitted_refits {b : Blocks} (off : b.offUnfitted) {lane : Lane → LaneState} {fitted : Lane → Bool}
    (each : ∀ x, Blocks.refits (b.fitted x) (fitted x) (b.lane x) (lane x) (b.tines x)) (x : Lane) :
    lane x = .off ↔ fitted x = false := by
  rcases each x with ⟨same, lane_same⟩ | ⟨-, now, ⟨idle, -⟩ | fault⟩ | ⟨-, now, gone⟩
  · rw [lane_same, ← same]; exact off x
  · simp [idle, now]
  · simp [fault, now]
  · simp [gone, now]

/-- A write of the lanes fitted leaves no lane that names an entry. -/
theorem Blocks.names_none_of_refits {b : Blocks} (off : b.offUnfitted) (idle : ∀ x, b.fitted x = true → b.lane x = .idle)
    {lane : Lane → LaneState} {fitted : Lane → Bool}
    (each : ∀ x, Blocks.refits (b.fitted x) (fitted x) (b.lane x) (lane x) (b.tines x)) (x : Lane) :
    (lane x).named? = none := by
  rcases each x with ⟨-, lane_same⟩ | ⟨-, -, ⟨idle, -⟩ | fault⟩ | ⟨-, -, gone⟩
  · rw [lane_same]; exact Blocks.names_none_of_idle off idle x
  · rw [idle]; rfl
  · rw [fault]; rfl
  · rw [gone]; rfl

theorem Blocks.Move.keeps_offUnfitted {spaced : Prop} {b c : Blocks} (move : Blocks.Move spaced b c)
    (off : b.offUnfitted) : c.offUnfitted := by
  cases move with
  | faults x tines on => exact Blocks.offUnfitted_update off on (by simp) rfl rfl
  | descends x e held claimed => exact Blocks.offUnfitted_update off (by simp [claimed]) (by simp) rfl rfl
  | squeezes x q l level naming =>
    rcases naming with ⟨down, rfl⟩ | ⟨orphaned, rfl⟩
    · exact Blocks.offUnfitted_update off (by simp [down]) (by simp) rfl rfl
    · exact Blocks.offUnfitted_update off (by simp [orphaned]) (by simp) rfl rfl
  | claims x e held idle => exact Blocks.offUnfitted_update off (by simp [idle]) (by simp) rfl rfl
  | endsClaim x q st ended naming =>
    have on : b.lane x ≠ .off := by rcases naming with claimed | ⟨orphaned, -⟩ <;> simp [*]
    exact Blocks.offUnfitted_update off on (by simp) rfl rfl
  | relanes x l turn =>
    rcases turn with ⟨q, before, rfl, -⟩ | ⟨q, before | before, rfl⟩ | ⟨before, rfl, -⟩ <;>
      exact Blocks.offUnfitted_update off (by simp [before]) (by simp) rfl rfl
  | refits lane fitted granted freeze idle each => exact Blocks.offUnfitted_refits off each
  | resets fitted =>
    intro x
    show (if fitted x then LaneState.idle else .off) = .off ↔ _
    cases h : fitted x <;> simp [h]
  | rewrites | departs | creates | flushes | takesOldest | freezes | halts | grants | thaws | levels | waives | lifts |
    stands | opens | frees => exact off

theorem Blocks.Move.keeps_claimsMatch {spaced : Prop} {b c : Blocks} (move : Blocks.Move spaced b c)
    (off : b.offUnfitted) (agree : b.claimsMatch) : c.claimsMatch := by
  have naming_same {x : Lane} {l : LaneState} (same : l.named? = (b.lane x).named?) (y : Lane) :
      (Lane.update b.lane x l y).named? = (b.lane y).named? := by
    by_cases hy : y = x
    · subst hy; simpa using same
    · rw [Lane.update_of_ne hy]
  have same_entries {c : Blocks} (entries : c.entries = b.entries) (named : ∀ x, (c.lane x).named? = (b.lane x).named?) :
      c.claimsMatch :=
    Blocks.claimsMatch_of_same agree named (fun e mem => ⟨e, entries ▸ mem, rfl, fun _ => rfl⟩)
      fun e mem => ⟨e, entries ▸ mem, rfl, fun _ => rfl⟩
  cases move with
  | rewrites entries keeps =>
    obtain ⟨there, back⟩ := SleeperList.mem_alike keeps
    refine Blocks.claimsMatch_of_same agree (fun _ => rfl) (fun e mem => ?_) fun e' mem => ?_
    · obtain ⟨e', mem', seq, -, same⟩ := there e mem
      exact ⟨e', mem', seq, fun x => (same x).1⟩
    · obtain ⟨e, mem', seq, -, same⟩ := back e' mem
      exact ⟨e, mem', seq.symm, fun x => (same x).1.symm⟩
  | departs before e after o held free =>
    obtain ⟨names, claimed⟩ := agree
    refine ⟨fun x q naming => ?_, fun x f mem => claimed x f (held ▸ ?_)⟩
    · obtain ⟨f, mem, seq, status⟩ := names x q naming
      refine ⟨f, ?_, seq, status⟩
      have other : f ≠ e := fun same => free x (same ▸ status)
      rw [held] at mem
      simpa [other] using mem
    · rcases List.mem_append.1 mem with first | second
      · exact List.mem_append_left _ first
      · exact List.mem_append_right _ (List.mem_cons_of_mem e second)
  | creates e room fresh untouched =>
    obtain ⟨names, claimed⟩ := agree
    refine ⟨fun x q naming => ?_, fun x f mem status => ?_⟩
    · obtain ⟨f, mem, seq, status⟩ := names x q naming
      exact ⟨f, SleeperList.mem_insert.2 (.inr mem), seq, status⟩
    · rcases SleeperList.mem_insert.1 mem with rfl | old
      · simp [(untouched x).1] at status
      · exact claimed x f old status
  | flushes free idle =>
    exact ⟨fun x q naming => by simp [Blocks.names_none_of_idle off idle x] at naming, fun x e mem => by simp at mem⟩
  | faults x tines on =>
    cases named : (b.lane x).named? with
    | none => exact same_entries (by simp [SleeperList.failNamed]) (naming_same (by rw [named]; rfl))
    | some q =>
      exact Blocks.claimsMatch_of_status agree (.inr named) (st := .failed) (by simp [LaneState.named?]) (by simp)
        (by simp [SleeperList.failNamed]) rfl
  | descends x e held claimed =>
    exact same_entries rfl (naming_same (by rw [claimed]; rfl))
  | squeezes x q l level naming =>
    refine Blocks.claimsMatch_of_rewrite agree (Entry.onLane_seq x _) (fun e y => ?_) rfl (naming_same ?_)
    · rw [Entry.onLane_get]
      split <;> simp [LaneRecord.squeezed, *]
    · rcases naming with ⟨before, rfl⟩ | ⟨before, rfl⟩ <;> simp [before, LaneState.named?]
  | claims x e held idle =>
    exact Blocks.claimsMatch_of_status agree (.inl (by rw [idle]; rfl)) (by simp [LaneState.named?])
      (fun _ => ⟨e, held, rfl⟩) rfl rfl
  | endsClaim x q st ended naming =>
    have named : (b.lane x).named? = some q := by rcases naming with h | ⟨h, -⟩ <;> rw [h] <;> rfl
    exact Blocks.claimsMatch_of_status agree (.inr named) (by simp [LaneState.named?, ended])
      (fun now => absurd now ended) rfl rfl
  | waives x q idle =>
    exact Blocks.claimsMatch_of_status agree (.inl (by rw [idle]; rfl)) (st := .waived) (l := .idle)
      (by simp [LaneState.named?]) (by simp) rfl (by rw [← idle, Lane.update_eq_self])
  | relanes x l turn =>
    refine same_entries ?_ ?_
    · rfl
    · refine naming_same ?_
      rcases turn with ⟨q, before, rfl, -⟩ | ⟨q, before | before, rfl⟩ | ⟨before, rfl, -⟩ <;> rw [before] <;> rfl
  | refits lane fitted granted freeze idle each =>
    refine same_entries rfl fun x => ?_
    rw [Blocks.names_none_of_idle off idle x]
    exact Blocks.names_none_of_refits off idle each x
  | resets fitted =>
    refine ⟨fun x q naming => ?_, fun x e mem => by simp at mem⟩
    simp only at naming
    split at naming <;> simp [LaneState.named?] at naming
  | takesOldest | freezes | halts | grants | thaws | levels | lifts | stands | opens | frees =>
    exact same_entries rfl fun _ => rfl

theorem Blocks.Move.keeps_claimsHold {spaced : Prop} {b c : Blocks} (move : Blocks.Move spaced b c)
    (hold : b.claimsHold) : c.claimsHold := by
  obtain ⟨room, distinct, off, agree⟩ := hold
  obtain ⟨room', distinct'⟩ := move.keeps_distinct room distinct
  exact ⟨room', distinct', move.keeps_offUnfitted off, move.keeps_claimsMatch off agree⟩

/-! ### The hold names an entry (R55, R94, R95) -/

/-- The seqs held after a move are those held before it, but where an entry departs, the list empties, or one is new. -/
theorem Blocks.holdStands_of_lanes {b c : Blocks} (stands : b.holdStands)
    (seqs : c.entries.map Entry.seq = b.entries.map Entry.seq) (hold : c.hold = b.hold)
    (down : ∀ x q, c.lane x = .down q 0 → b.lane x = .down q 0 ∨ b.hold.heldOn q = true) : c.holdStands := by
  obtain ⟨named, below⟩ := stands
  refine ⟨fun q naming => (SleeperList.holds_congr seqs q).2 (named q (hold ▸ naming)), fun x q is_down => ?_⟩
  rw [hold]
  rcases down x q is_down with before | held
  · exact below x q before
  · exact held

/-- A lane put in a state other than DOWN. -/
theorem Blocks.down_of_update {lane : Lane → LaneState} {x y : Lane} {l : LaneState} {q : SeqNo} (up : l ≠ .down q 0)
    (down : Lane.update lane x l y = .down q 0) : lane y = .down q 0 := by
  by_cases hy : y = x
  · subst hy; exact absurd (by simpa using down) up
  · rwa [Lane.update_of_ne hy] at down

theorem Blocks.Move.keeps_holdStands {spaced : Prop} {b c : Blocks} (move : Blocks.Move spaced b c)
    (stands : b.holdStands) : c.holdStands := by
  have relaned {c : Blocks} (seqs : c.entries.map Entry.seq = b.entries.map Entry.seq) (hold : c.hold = b.hold) {x : Lane}
      {l : LaneState} (up : ∀ q, l ≠ .down q 0) (lane : c.lane = Lane.update b.lane x l) : c.holdStands :=
    Blocks.holdStands_of_lanes stands seqs hold fun y q down => .inl (Blocks.down_of_update (up q) (lane ▸ down))
  have on_lane (q : SeqNo) (x : Lane) (f : LaneRecord → LaneRecord) :
      (SleeperList.rewrite q (Entry.onLane x f) b.entries).map Entry.seq = b.entries.map Entry.seq :=
    SleeperList.map_seq_rewrite (Entry.onLane_seq x f) _
  cases move with
  | rewrites entries keeps =>
    exact Blocks.holdStands_of_lanes stands (SleeperList.map_seq_alike keeps) rfl fun _ _ => .inl
  | departs before e after o held free unnamed =>
    obtain ⟨named, below⟩ := stands
    refine ⟨fun q naming => ?_, below⟩
    obtain ⟨f, mem, seq⟩ := named q naming
    have other : f ≠ e := fun same => unnamed (naming.trans (by rw [← seq, same]))
    rw [held] at mem
    exact ⟨f, by simpa [other] using mem, seq⟩
  | creates e room fresh untouched =>
    obtain ⟨named, below⟩ := stands
    refine ⟨fun q naming => ?_, below⟩
    obtain ⟨f, mem, seq⟩ := named q naming
    exact ⟨f, SleeperList.mem_insert.2 (.inr mem), seq⟩
  | flushes free idle =>
    obtain ⟨named, below⟩ := stands
    exact ⟨fun q naming => by simp [free, HoldState.named?] at naming, below⟩
  | faults x tines on => exact relaned (by simp) rfl (by simp) rfl
  | descends x e held claimed standing =>
    refine Blocks.holdStands_of_lanes stands rfl rfl fun y q down => ?_
    by_cases hy : y = x
    · subst hy
      have seq : e.seq = q := by simpa using down
      exact .inr (seq ▸ standing)
    · exact .inl (by simpa [hy] using down)
  | squeezes x q l level naming =>
    have up : ∀ q', l ≠ .down q' 0 := by rcases naming with ⟨-, rfl⟩ | ⟨-, rfl⟩ <;> simp
    exact relaned (on_lane q x _) rfl up rfl
  | claims x e => exact relaned (on_lane _ x _) rfl (by simp) rfl
  | endsClaim x q => exact relaned (on_lane q x _) rfl (by simp) rfl
  | waives x q => exact Blocks.holdStands_of_lanes stands (on_lane q x _) rfl fun _ _ => .inl
  | relanes x l turn =>
    have up : ∀ q', l ≠ .down q' 0 := by rcases turn with ⟨_, -, rfl, -⟩ | ⟨_, -, rfl⟩ | ⟨-, rfl, -⟩ <;> simp
    exact relaned rfl rfl up rfl
  | lifts e held free =>
    obtain ⟨-, below⟩ := stands
    refine ⟨fun q naming => ⟨e, held, Option.some.inj naming⟩, fun x q down => ?_⟩
    simpa [free, HoldState.heldOn] using below x q down
  | stands q lifting =>
    obtain ⟨named, below⟩ := stands
    refine ⟨fun q' naming => named q' (by rw [lifting]; exact naming), fun x q' down => ?_⟩
    simpa [lifting, HoldState.heldOn] using below x q' down
  | opens q named_q =>
    obtain ⟨named, below⟩ := stands
    rcases named_q with lifting | ⟨naming, up⟩
    · refine ⟨fun q' naming => named q' (by rw [lifting]; exact naming), fun x q' down => ?_⟩
      simpa [lifting, HoldState.heldOn] using below x q' down
    · refine ⟨fun q' naming' => named q' (naming.trans naming'), fun x q' down => ?_⟩
      have held := below x q' down
      cases hold : b.hold with
      | held q'' t ms =>
        have same : q'' = q := by simpa [hold, HoldState.named?] using naming
        have same' : q'' = q' := by simpa [hold, HoldState.heldOn] using held
        exact absurd (same ▸ same' ▸ down) (up x)
      | _ => simp [hold, HoldState.heldOn] at held
  | frees q opening =>
    obtain ⟨-, below⟩ := stands
    refine ⟨fun q' naming => by simp [HoldState.named?] at naming, fun x q' down => ?_⟩
    simpa [opening, HoldState.heldOn] using below x q' down
  | refits lane fitted granted freeze idle each =>
    refine Blocks.holdStands_of_lanes stands rfl rfl fun x q down => ?_
    rcases each x with ⟨-, same⟩ | ⟨-, -, ⟨now, -⟩ | now⟩ | ⟨-, -, now⟩
    · exact .inl (same ▸ down)
    all_goals simp [now] at down
  | resets fitted =>
    refine ⟨fun q naming => by simp [HoldState.named?] at naming, fun x q down => ?_⟩
    simp only at down
    split at down <;> simp at down
  | takesOldest | freezes | halts | grants | thaws | levels => exact stands

/-! ### A grant stands only where it is safe (R112) -/

theorem Blocks.Move.keeps_grantSafe {spaced : Prop} {b c : Blocks} (move : Blocks.Move spaced b c)
    (safe : b.grantSafe) : c.grantSafe := by
  obtain ⟨off, stands⟩ := safe
  refine ⟨move.keeps_offUnfitted off, fun granted => ?_⟩
  have idle_of_on {x : Lane} (given : b.granted = true) (on : b.lane x ≠ .off) : b.lane x = .idle := by
    refine (stands given).2.2 x ?_
    rw [← Bool.not_eq_false, ← off x]
    exact on
  cases move with
  | freezes | halts | faults | resets => exact absurd granted (by simp)
  | grants run free idle =>
    refine ⟨run, free, fun x fitted => (idle x fitted).resolve_right fun gone => ?_⟩
    exact absurd ((off x).1 gone) (by simpa using fitted)
  | thaws frozen => exact absurd ((stands granted).1.symm.trans frozen) (by simp)
  | descends x e held claimed => exact absurd (claimed.symm.trans (idle_of_on granted (by simp [claimed]))) (by simp)
  | squeezes x q l level naming =>
    rcases naming with ⟨before, -⟩ | ⟨before, -⟩
    all_goals exact absurd (before.symm.trans (idle_of_on granted (by simp [before]))) (by simp)
  | claims x e held idle ungranted => exact absurd (granted.symm.trans ungranted) (by simp)
  | lifts e held free ungranted => exact absurd (granted.symm.trans ungranted) (by simp)
  | endsClaim x q st ended naming =>
    obtain before | ⟨before, -⟩ := naming
    all_goals exact absurd (before.symm.trans (idle_of_on granted (by simp [before]))) (by simp)
  | relanes x l turn =>
    rcases turn with ⟨q, before, -⟩ | ⟨q, before | before, -⟩ | ⟨before, -⟩
    all_goals exact absurd (before.symm.trans (idle_of_on granted (by simp [before]))) (by simp)
  | stands q lifting => exact absurd (lifting.symm.trans (stands granted).2.1) (by simp)
  | opens q named_q =>
    have free := (stands granted).2.1
    rcases named_q with lifting | ⟨naming, -⟩
    · exact absurd (lifting.symm.trans free) (by simp)
    · simp [free, HoldState.named?] at naming
  | frees q opening => exact absurd (opening.symm.trans (stands granted).2.1) (by simp)
  | refits lane fitted given freeze idle each kept =>
    obtain ⟨before, same, sound⟩ := kept granted
    obtain ⟨run, free, -⟩ := stands before
    refine ⟨same ▸ run, free, fun x fit => ?_⟩
    rcases each x with ⟨same, lane_same⟩ | ⟨-, -, ⟨now, -⟩ | fault⟩ | ⟨-, unfit, -⟩
    · exact lane_same.trans (idle x (same.trans fit))
    · exact now
    · exact absurd fault (sound x fit)
    · exact absurd (fit.symm.trans unfit) (by simp)
  | rewrites | departs | creates | flushes | takesOldest | levels | waives => exact stands granted

/-! ### Squeezes done stay between 0 and 3 (R75) -/

/-- One lane's state and level change together. -/
theorem Blocks.tinesKnown_update {b : Blocks} (known : b.tinesKnown) {x : Lane} {l : LaneState} {t : Bool}
    (allowed : l.allows t) (y : Lane) : (Lane.update b.lane x l y).allows (Lane.update b.tines x t y) := by
  by_cases hy : y = x
  · subst hy; simpa using allowed
  · simpa [hy] using known y

theorem Blocks.Move.keeps_tinesKnown {spaced : Prop} {b c : Blocks} (move : Blocks.Move spaced b c)
    (known : b.tinesKnown) : c.tinesKnown := by
  have relaned {x : Lane} {l : LaneState} (allowed : l.allows (b.tines x)) (y : Lane) :
      (Lane.update b.lane x l y).allows (b.tines y) := by
    simpa using Blocks.tinesKnown_update (x := x) known allowed y
  cases move with
  | faults x tines on => exact Blocks.tinesKnown_update known (by simp [LaneState.allows])
  | levels x tines still =>
    intro y
    have allowed : (b.lane x).allows tines := by
      rcases still with (h | h) | ⟨rfl, h | ⟨q, h⟩⟩ | ⟨rfl, q, h⟩ <;> simp [LaneState.allows, h]
    simpa using Blocks.tinesKnown_update (x := x) known allowed y
  | descends x e held claimed => exact Blocks.tinesKnown_update known (by simp [LaneState.allows])
  | squeezes x q l level naming =>
    refine Blocks.tinesKnown_update known ?_
    rcases naming with ⟨-, rfl⟩ | ⟨-, rfl⟩ <;> simp [LaneState.allows]
  | claims x e held idle => exact relaned (by simp [LaneState.allows, (known x).1 idle])
  | endsClaim x q st ended naming =>
    have up : b.tines x = false := by
      rcases naming with claimed | ⟨-, up⟩
      · exact (known x).2.1 q claimed
      · exact up
    exact relaned (by simp [LaneState.allows, up])
  | relanes x l turn =>
    refine relaned ?_
    rcases turn with ⟨q, -, rfl, up⟩ | ⟨q, -, rfl⟩ | ⟨-, rfl, up⟩
    · simp [LaneState.allows, up]
    · simp [LaneState.allows]
    · simp [LaneState.allows, up]
  | refits lane fitted granted freeze idle each =>
    intro x
    show (lane x).allows (b.tines x)
    rcases each x with ⟨-, same⟩ | ⟨-, -, ⟨now, up⟩ | now⟩ | ⟨-, -, now⟩
    · exact same ▸ known x
    all_goals simp [LaneState.allows, *]
  | resets fitted => exact fun x => ⟨fun _ => rfl, fun _ _ => rfl, fun q down => by simp only at down; split at down <;> simp at down⟩
  | rewrites | departs | creates | flushes | takesOldest | freezes | halts | grants | thaws | waives | lifts | stands |
    opens | frees => exact known

/-- A write that keeps the squeezes of each entry, with no lane newly active on an entry. -/
theorem Blocks.squeezesBounded_of_same {b c : Blocks} (bounded : b.squeezesBounded)
    (back : ∀ e' ∈ c.entries, ∃ e ∈ b.entries, e.seq = e'.seq ∧
      ∀ x, (e.lanes.get x).squeezes = (e'.lanes.get x).squeezes)
    (records : ∀ r ∈ c.passages.records, r ∈ b.passages.records)
    (naming : ∀ x q, c.tines x = true → (c.lane x).named? = some q → b.tines x = true ∧ (b.lane x).named? = some q) :
    c.squeezesBounded := by
  obtain ⟨entries, passed, active⟩ := bounded
  refine ⟨fun e' mem x => ?_, fun r mem => passed r (records r mem), fun x q tines named e' mem seq => ?_⟩
  · obtain ⟨e, mem', -, same⟩ := back e' mem
    exact same x ▸ entries e mem' x
  · obtain ⟨e, mem', seq', same⟩ := back e' mem
    obtain ⟨tines', named'⟩ := naming x q tines named
    exact same x ▸ active x q tines' named' e mem' (seq'.trans seq)

theorem SleeperList.rewrite_back {q : SeqNo} {f : Entry → Entry} {es : List Entry} (seq : ∀ e, (f e).seq = e.seq)
    (squeezes : ∀ e x, ((f e).lanes.get x).squeezes = (e.lanes.get x).squeezes) :
    ∀ e' ∈ SleeperList.rewrite q f es, ∃ e ∈ es, e.seq = e'.seq ∧
      ∀ x, (e.lanes.get x).squeezes = (e'.lanes.get x).squeezes := by
  intro e' mem
  obtain ⟨e, mem', rfl⟩ := SleeperList.mem_rewrite.1 mem
  refine ⟨e, mem', ?_, fun x => ?_⟩ <;> split <;> simp [seq, squeezes]

theorem Entry.withStatus_squeezes (x : Lane) (st : LaneStatus) (e : Entry) (y : Lane) :
    ((e.onLane x (LaneRecord.withStatus st)).lanes.get y).squeezes = (e.lanes.get y).squeezes := by
  rw [Entry.onLane_get]
  split <;> simp [LaneRecord.withStatus, *]

/-- The records after one is taken are among those held and the one taken. -/
theorem PassageList.mem_takes {l : PassageList} {r r' : PassageRecord} (mem : r' ∈ (l.takes r).records) :
    r' ∈ l.records ∨ r' = r := by
  unfold PassageList.takes at mem
  split at mem
  · simpa using mem
  · rcases List.mem_append.1 mem with old | new
    · exact .inl (List.mem_of_mem_tail old)
    · exact .inr (by simpa using new)

theorem Blocks.Move.keeps_squeezesBounded {spaced : Prop} {b c : Blocks} (move : Blocks.Move spaced b c)
    (distinct : (b.entries.map Entry.seq).Nodup) (known : b.tinesKnown) (bounded : b.squeezesBounded) :
    c.squeezesBounded := by
  have unmoved : ∀ e' ∈ b.entries, ∃ e ∈ b.entries, e.seq = e'.seq ∧
      ∀ x, (e.lanes.get x).squeezes = (e'.lanes.get x).squeezes := fun e mem => ⟨e, mem, rfl, fun _ => rfl⟩
  have on_status (q : SeqNo) (x : Lane) (st : LaneStatus) :=
    SleeperList.rewrite_back (q := q) (es := b.entries) (Entry.onLane_seq x _) (Entry.withStatus_squeezes x st)
  /- A lane newly put in a state that names no entry, or with its tines up, is not active on one. -/
  have relaned {x : Lane} {l : LaneState} {t : Lane → Bool}
      (elsewhere : ∀ y, y ≠ x → t y = b.tines y)
      (here : ∀ q, t x = true → l.named? = some q → b.tines x = true ∧ (b.lane x).named? = some q) (y : Lane) (q : SeqNo)
      (tines : t y = true) (named : (Lane.update b.lane x l y).named? = some q) :
      b.tines y = true ∧ (b.lane y).named? = some q := by
    by_cases hy : y = x
    · subst hy; exact here q tines (by simpa using named)
    · exact ⟨elsewhere y hy ▸ tines, by simpa [hy] using named⟩
  cases move with
  | rewrites entries keeps =>
    refine Blocks.squeezesBounded_of_same bounded (fun e' mem => ?_) (fun _ mem => mem)
      fun _ _ tines named => ⟨tines, named⟩
    obtain ⟨e, mem', seq, -, same⟩ := (SleeperList.mem_alike keeps).2 e' mem
    exact ⟨e, mem', seq.symm, fun x => (same x).2.symm⟩
  | departs before e after o held =>
    obtain ⟨entries, passed, active⟩ := bounded
    have sub {f : Entry} (mem : f ∈ before ++ after) : f ∈ b.entries := by
      rw [held]
      rcases List.mem_append.1 mem with first | second
      · exact List.mem_append_left _ first
      · exact List.mem_append_right _ (List.mem_cons_of_mem e second)
    refine ⟨fun f mem => entries f (sub mem), fun r mem x => ?_, fun x q tines named f mem => active x q tines named f (sub mem)⟩
    rcases PassageList.mem_takes mem with old | rfl
    · exact passed r old x
    · have mem_e : e ∈ b.entries := held ▸ by simp
      simpa [Entry.passage] using entries e mem_e x
  | creates e room fresh untouched =>
    obtain ⟨entries, passed, active⟩ := bounded
    refine ⟨fun f mem x => ?_, passed, fun x q tines named f mem seq => ?_⟩
    all_goals rcases SleeperList.mem_insert.1 mem with rfl | old
    · simp [(untouched x).2]
    · exact entries f old x
    · simp [(untouched x).2]
    · exact active x q tines named f old seq
  | flushes => exact ⟨fun e mem => by simp at mem, bounded.2.1, fun x q _ _ e mem => by simp at mem⟩
  | takesOldest n =>
    exact Blocks.squeezesBounded_of_same bounded unmoved (fun r mem => List.mem_of_mem_drop mem)
      fun _ _ tines named => ⟨tines, named⟩
  | faults x tines on =>
    refine Blocks.squeezesBounded_of_same bounded ?_ (fun _ mem => mem)
      (relaned (fun y hy => by simp [hy]) fun q _ named => by simp [LaneState.named?] at named)
    cases h : (b.lane x).named? with
    | none => simpa [SleeperList.failNamed] using unmoved
    | some q => simpa [SleeperList.failNamed] using on_status q x .failed
  | levels x tines still =>
    refine Blocks.squeezesBounded_of_same bounded unmoved (fun _ mem => mem) fun y q active named => ?_
    by_cases hy : y = x
    · subst hy
      rcases still with (h | h) | ⟨rfl, -⟩ | ⟨rfl, q', h⟩
      · simp [h, LaneState.named?] at named
      · simp [h, LaneState.named?] at named
      · simp at active
      · exact ⟨(known y).2.2 q' h, named⟩
    · exact ⟨by simpa [hy] using active, named⟩
  | descends x e held claimed standing below =>
    obtain ⟨entries, passed, active⟩ := bounded
    refine ⟨entries, passed, fun y q tines named f mem seq => ?_⟩
    by_cases hy : y = x
    · subst hy
      have named_e : e.seq = q := by simpa [LaneState.named?] using named
      rw [SleeperList.eq_of_seq distinct mem held (seq.trans named_e.symm)]
      exact below
    · exact active y q (by simpa [hy] using tines) (by simpa [hy] using named) f mem seq
  | squeezes x q l level naming =>
    have named_q : (b.lane x).named? = some q := by rcases naming with ⟨h, -⟩ | ⟨h, -⟩ <;> rw [h] <;> rfl
    obtain ⟨entries, passed, active⟩ := bounded
    refine ⟨fun f mem y => ?_, passed, fun y q' tines named f mem seq => ?_⟩
    · obtain ⟨e, mem', rfl⟩ := SleeperList.mem_rewrite.1 mem
      split
      next seq =>
        rw [Entry.onLane_get]
        split
        · exact active x q level named_q e mem' seq
        · exact entries e mem' y
      next => exact entries e mem' y
    · have hy : y ≠ x := fun same => by subst same; simp at tines
      obtain ⟨e, mem', rfl⟩ := SleeperList.mem_rewrite.1 mem
      have lane_same : ((if e.seq = q then e.onLane x LaneRecord.squeezed else e).lanes.get y) = e.lanes.get y := by
        split <;> simp [Entry.onLane_get, hy]
      have seq_same : (if e.seq = q then e.onLane x LaneRecord.squeezed else e).seq = e.seq := by split <;> rfl
      rw [lane_same]
      exact active y q' (by simpa [hy] using tines) (by simpa [hy] using named) e mem' (seq_same ▸ seq)
  | claims x e held idle =>
    exact Blocks.squeezesBounded_of_same bounded (on_status _ x _) (fun _ mem => mem)
      (relaned (fun _ _ => rfl) fun q tines _ => by simp [(known x).1 idle] at tines)
  | endsClaim x q st ended naming =>
    exact Blocks.squeezesBounded_of_same bounded (on_status q x st) (fun _ mem => mem)
      (relaned (fun _ _ => rfl) fun q _ named => by simp [LaneState.named?] at named)
  | waives x q idle =>
    exact Blocks.squeezesBounded_of_same bounded (on_status q x .waived) (fun _ mem => mem)
      fun _ _ tines named => ⟨tines, named⟩
  | relanes x l turn =>
    refine Blocks.squeezesBounded_of_same bounded unmoved (fun _ mem => mem)
      (relaned (fun _ _ => rfl) fun q' tines named => ?_)
    rcases turn with ⟨q, -, rfl, up⟩ | ⟨q, before, rfl⟩ | ⟨-, rfl, up⟩
    · simp [up] at tines
    · refine ⟨tines, ?_⟩
      rcases before with h | h <;> simpa [h, LaneState.named?] using named
    · simp [up] at tines
  | refits lane fitted granted freeze idle each =>
    refine Blocks.squeezesBounded_of_same bounded unmoved (fun _ mem => mem) fun x q tines named => ?_
    rcases each x with ⟨-, same⟩ | ⟨-, -, ⟨now, -⟩ | now⟩ | ⟨-, -, now⟩
    · exact ⟨tines, same ▸ named⟩
    all_goals simp [now, LaneState.named?] at named
  | resets fitted => exact ⟨fun e mem => by simp at mem, fun r mem => by simp at mem, fun x q _ _ e mem => by simp at mem⟩
  | freezes | halts | grants | thaws | lifts | stands | opens | frees => exact bounded

theorem Blocks.Move.keeps_squeezesHold {spaced : Prop} {b c : Blocks} (move : Blocks.Move spaced b c)
    (hold : b.squeezesHold) : c.squeezesHold := by
  obtain ⟨claims, known, bounded⟩ := hold
  exact ⟨move.keeps_claimsHold claims, move.keeps_tinesKnown known, move.keeps_squeezesBounded claims.2.1 known bounded⟩

/-- What every move keeps, a sequence of moves keeps. -/
theorem State.moves_keeps {spaced : Prop} {P : Blocks → Prop} (keeps : ∀ b c, Blocks.Move spaced b c → P b → P c)
    {s t : State} (path : s.moves spaced t) (start : P s.blocks) : P t.blocks := by
  unfold State.moves at path
  generalize s.blocks = b at path start
  generalize t.blocks = c at path
  induction path with
  | refl => exact start
  | tail _ move ih => exact keeps _ _ move ih

end Sys2Proof.Machine
end

section
/-! PROOFS. What the shared operations do to the blocks: each is a sequence of moves. -/

namespace Sys2Proof.Machine

section
variable {spaced : Prop}

/-! ### Sequences of moves -/

theorem Blocks.Path.single {b c : Blocks} (move : Blocks.Move spaced b c) : Blocks.Path spaced b c := .tail .refl move

theorem Blocks.Path.trans {b c d : Blocks} (first : Blocks.Path spaced b c) (second : Blocks.Path spaced c d) :
    Blocks.Path spaced b d := by
  induction second with
  | refl => exact first
  | tail _ move ih => exact .tail ih move

theorem Blocks.Path.head {b c d : Blocks} (move : Blocks.Move spaced b c) (rest : Blocks.Path spaced c d) :
    Blocks.Path spaced b d :=
  Blocks.Path.trans (.single move) rest

theorem State.moves_of_eq {s t : State} (same : t.blocks = s.blocks) : s.moves spaced t := by
  unfold State.moves
  rw [same]
  exact .refl

theorem State.moves_of_move {s t : State} {b : Blocks} (move : Blocks.Move spaced s.blocks b) (result : t.blocks = b) :
    s.moves spaced t := by
  unfold State.moves
  rw [result]
  exact .single move

theorem State.moves_refl (s : State) : s.moves spaced s := .refl

theorem State.moves_trans {s t u : State} (first : s.moves spaced t) (second : t.moves spaced u) : s.moves spaced u :=
  Blocks.Path.trans first second

/-- What follows a sequence of moves may change what the blocks leave out. -/
theorem State.moves_congr {s s' t t' : State} (path : s.moves spaced t) (start : s.blocks = s'.blocks)
    (result : t'.blocks = t.blocks) : s'.moves spaced t' := by
  unfold State.moves at *
  rwa [result, ← start]

/-! ### What the blocks leave out -/

@[simp] theorem State.blocks_raise (s : State) (e : Event) : (s.raise e).blocks = s.blocks := rfl

@[simp] theorem State.blocks_raise? (s : State) (e : Option Event) : (s.raise? e).blocks = s.blocks := by cases e <;> rfl

@[simp] theorem State.blocks_settle (s : State) : s.settle.blocks = s.blocks := rfl

@[simp] theorem State.blocks_updatePort (s : State) (p : Port) (f : PortState → PortState) :
    (s.updatePort p f).blocks = s.blocks := rfl

@[simp] theorem State.blocks_updateEvents (s : State) (p : Port) (f : EventPort → EventPort) :
    (s.updateEvents p f).blocks = s.blocks := rfl

@[simp] theorem State.blocks_popQueue (s : State) (p : Port) : (s.popQueue p).blocks = s.blocks := rfl

@[simp] theorem State.blocks_dropInFlight (s : State) : s.dropInFlight.blocks = s.blocks := rfl

@[simp] theorem State.blocks_rejectCandidate (s : State) : s.rejectCandidate.blocks = s.blocks := rfl

@[simp] theorem State.blocks_loseCandidate (s : State) : s.loseCandidate.blocks = s.blocks := rfl

@[simp] theorem State.blocks_detectorWatch (s : State) (d : Direction) : (s.detectorWatch d).blocks = s.blocks := by
  unfold State.detectorWatch
  split <;> rfl

@[simp] theorem State.blocks_respond (p : Port) (r : Request) (a : Reply) :
    (State.respond p r a).blocks = a.state.blocks := by
  unfold State.respond
  split <;> rfl

@[simp] theorem State.blocks_receiveByte (s : State) (p : Port) (b : RxByte) : (s.receiveByte p b).blocks = s.blocks := by
  have arrives (u : State) (r : Request) : (u.frameArrives p r).blocks = u.blocks := by
    unfold State.frameArrives State.enqueue State.refreshPresence
    split <;> split <;> rfl
  simp only [State.receiveByte]
  split
  · rfl
  · rfl
  · rw [arrives]; rfl

@[simp] theorem State.blocks_receiveBytes (s : State) (p : Port) (bs : List RxByte) :
    (s.receiveBytes p bs).blocks = s.blocks := by
  induction bs generalizing s with
  | nil => rfl
  | cons b bs ih => exact (ih (s.receiveByte p b)).trans (s.blocks_receiveByte p b)

/-- A change of one lane. -/
theorem State.blocks_updateLane (s : State) (x : Lane) (f : LaneController → LaneController) :
    (s.updateLane x f).blocks = { s.blocks with
      lane := Lane.update s.blocks.lane x (f (s.lane x)).state.untimed
      tines := Lane.update s.blocks.tines x (f (s.lane x)).tdnActive } := by
  have get (y : Lane) : (s.updateLane x f).lane y = if y = x then f (s.lane x) else s.lane y := by
    simp [State.lane, State.updateLane]
  simp only [State.blocks, get, State.updateLane_keeps, Blocks.mk.injEq, true_and]
  refine ⟨?_, ?_, rfl⟩
  all_goals
    funext y
    by_cases hy : y = x <;> simp [hy]

theorem State.blocks_setLane (s : State) (x : Lane) (l : LaneState) :
    (s.setLane x l).blocks = { s.blocks with lane := Lane.update s.blocks.lane x l.untimed } := by
  rw [State.setLane, State.blocks_updateLane]
  have level : Lane.update s.blocks.tines x (s.lane x).tdnActive = s.blocks.tines := Lane.update_eq_self x _
  rw [level]

theorem State.blocks_updateEntry (s : State) (q : SeqNo) (f : Entry → Entry) :
    (s.updateEntry q f).blocks = { s.blocks with entries := SleeperList.rewrite q f s.blocks.entries } := rfl

theorem State.blocks_setStatus (s : State) (q : SeqNo) (x : Lane) (st : LaneStatus) :
    (s.setStatus q x st).blocks = { s.blocks with
      entries := SleeperList.rewrite q (Entry.onLane x (LaneRecord.withStatus st)) s.blocks.entries } := rfl

theorem State.blocks_takeRecord (s : State) (r : PassageRecord) :
    (s.takeRecord r).blocks = { s.blocks with passages := s.blocks.passages.takes r } := by
  have same : s.blocks.passages = s.passages := rfl
  unfold State.takeRecord PassageList.takes
  rw [same]
  split <;> rfl

theorem State.blocks_depart (s : State) (e : Entry) (rest : List Entry) (o : PassageOutcome) :
    (s.depart e rest o).blocks = { s.blocks with
      entries := rest, departed := s.blocks.departed + 1, passages := s.blocks.passages.takes (e.passage o) } := by
  rw [State.depart, State.blocks_raise, State.blocks_takeRecord]
  rfl

theorem State.blocks_endGrantIfAny (s : State) : s.endGrantIfAny.blocks = { s.blocks with granted := false } := by
  unfold State.endGrantIfAny
  split
  · rfl
  next halted => simp [State.blocks, halted]

/-! ### The list -/

theorem Entry.alike_refl (e : Entry) : e.alike e := ⟨rfl, rfl, fun _ => ⟨rfl, rfl⟩⟩

theorem Entry.AlikeAll.refl (es : List Entry) : Entry.AlikeAll es es := by
  induction es with
  | nil => exact .nil
  | cons e _ ih => exact .cons e.alike_refl ih

/-- A write to the entry with one seq. -/
theorem SleeperList.rewrite_alike {q : SeqNo} {f : Entry → Entry} (keeps : ∀ e : Entry, e.alike (f e)) (es : List Entry) :
    Entry.AlikeAll es (SleeperList.rewrite q f es) := by
  induction es with
  | nil => exact .nil
  | cons e rest ih =>
    refine .cons ?_ ih
    show e.alike (if e.seq = q then f e else e)
    split
    · exact keeps e
    · exact e.alike_refl

theorem State.moves_updateEntry (s : State) (q : SeqNo) {f : Entry → Entry} (keeps : ∀ e : Entry, e.alike (f e)) :
    s.moves spaced (s.updateEntry q f) :=
  State.moves_of_move (.rewrites s.blocks _ (SleeperList.rewrite_alike (q := q) keeps _)) (s.blocks_updateEntry q f)

/-- An entry that is not held back has no CLAIMED status, and the hold does not name it (R49). -/
theorem State.free_of_not_heldBack {s : State} {e : Entry} (free : s.isHeldBack e = false) :
    (∀ x, (e.lanes.get x).status ≠ .claimed) ∧ s.hold.named? ≠ some e.seq := by
  simp only [State.isHeldBack, Bool.or_eq_false_iff, List.any_eq_false, decide_eq_true_eq, decide_eq_false_iff_not] at free
  exact ⟨fun x => free.1 _ ((PerLane.mem_toList e.lanes _).2 ⟨x, rfl⟩), free.2⟩

/-- Retirement is departures from the head and at the end a mark on the head held back, whether a grant stands or not. -/
theorem State.retireFrom_moves (a : Int) (granted : Bool) :
    ∀ (es : List Entry) (s : State), s.list.entries = es →
      Blocks.Path spaced { s.blocks with granted := granted }
        { (State.retireFrom a es s).blocks with granted := granted } := by
  intro es
  induction es with
  | nil => exact fun s _ => .refl
  | cons e rest ih =>
    intro s held
    unfold State.retireFrom
    split
    next not_due => exact .refl
    next due =>
      split
      next back =>
        unfold State.holdBack
        split
        next => exact .refl
        next fresh =>
          refine .single ?_
          have alike : Entry.AlikeAll s.list.entries ({ e with deferred := true } :: rest) := by
            rw [held]
            exact .cons ⟨rfl, rfl, fun _ => ⟨rfl, rfl⟩⟩ (Entry.AlikeAll.refl rest)
          exact Blocks.Move.rewrites { s.blocks with granted := granted } _ alike
      next free =>
        obtain ⟨unclaimed, unnamed⟩ := State.free_of_not_heldBack (Bool.not_eq_true _ ▸ free)
        have gone := ih (s.depart e rest (s.outcome e)) (by simp [State.depart, State.takeRecord]; split <;> rfl)
        refine .head ?_ gone
        rw [State.blocks_depart]
        exact Blocks.Move.departs { s.blocks with granted := granted } [] e rest (s.outcome e) held unclaimed
          (by simpa [State.blocks] using unnamed)

theorem State.moves_retire (s : State) : s.moves spaced s.retire := by
  have path : Blocks.Path spaced s.blocks { s.retire.blocks with granted := s.blocks.granted } :=
    State.retireFrom_moves s.axis.axis s.blocks.granted s.list.entries s rfl
  have granted : s.blocks.granted = s.retire.blocks.granted := by simp [State.blocks]
  have same : { s.retire.blocks with granted := s.blocks.granted } = s.retire.blocks := by rw [granted]
  rw [same] at path
  exact path

/-! ### The grant and the freeze -/

theorem State.moves_handCause (s : State) (c : FreezeCause) (o : FreezeSource) (q : Option SeqNo) :
    s.moves spaced (s.handCause c o q) := by
  unfold State.handCause
  split
  · exact State.moves_of_move (.freezes s.blocks) rfl
  · exact State.moves_of_eq rfl

theorem State.moves_endGrantIfAny (s : State) : s.moves spaced s.endGrantIfAny :=
  State.moves_of_move (.halts s.blocks) s.blocks_endGrantIfAny

theorem State.moves_haltAtAxis (s : State) : s.moves spaced s.haltAtAxis := State.moves_of_move (.halts s.blocks) rfl

/-! ### Lane faults (R83) -/

/-- A lane fault, from a state that differs in the debounced level of the lane alone. -/
theorem State.moves_faultLane {s u : State} {x : Lane} {tines : Bool}
    (level : u.blocks = { s.blocks with tines := Lane.update s.blocks.tines x tines }) (on : s.blocks.lane x ≠ .off)
    (cause : LaneFaultCause) (detail : Nat) : s.moves spaced (u.faultLane x cause detail) := by
  have state : (u.lane x).state.untimed = s.blocks.lane x := congrArg (fun b : Blocks => b.lane x) level
  have named : (u.lane x).state.named? = (s.blocks.lane x).named? := by rw [← state, LaneState.untimed_named?]
  refine Blocks.Path.head (Blocks.Move.faults s.blocks x tines on) ?_
  unfold State.faultLane
  simp only [State.blocks_endGrantIfAny, State.blocks_raise, named]
  generalize hv : (u.updateLane x fun l => { l with
    fault := some ⟨cause, (s.blocks.lane x).named?, u.axis.axis, detail, 0⟩, state := .fault }) = v
  have faulted : v.blocks = { s.blocks with
      lane := Lane.update s.blocks.lane x .fault, tines := Lane.update s.blocks.tines x tines } := by
    have kept : (u.lane x).tdnActive = tines := by
      have := congrArg (fun b : Blocks => b.tines x) level
      simpa [State.blocks] using this
    rw [← hv, State.blocks_updateLane, level]
    simp [kept, LaneState.untimed]
  cases (s.blocks.lane x).named? with
  | none =>
    rw [State.failEntry, faulted]
    exact .refl
  | some q =>
    have path := State.retireFrom_moves (spaced := spaced) (v.setStatus q x .failed).axis.axis false
      (v.setStatus q x .failed).list.entries (v.setStatus q x .failed) rfl
    rw [State.blocks_setStatus, faulted] at path
    exact path

theorem State.moves_unpermittedDescent {s u : State} {x : Lane} {tines : Bool}
    (level : u.blocks = { s.blocks with tines := Lane.update s.blocks.tines x tines }) (on : s.blocks.lane x ≠ .off) :
    s.moves spaced (u.unpermittedDescent x) :=
  State.moves_trans (State.moves_faultLane level on _ _) (State.moves_handCause _ _ _ _)

/-! ### Assertions and releases (R74, R75) -/

/-- The permit holds where the hold stands on an entry of the list that the lane has claimed (R72). -/
theorem State.held_of_permit {s : State} {x : Lane} {q : SeqNo} (claimed : (s.lane x).state = .claimed q)
    (permit : s.permit x = true) : s.hold.heldOn q = true ∧ ∃ e, s.entry? q = some e := by
  simp only [State.permit, claimed, LaneState.permitSeq?, Bool.and_eq_true] at permit
  obtain ⟨⟨⟨-, held, found⟩, -⟩, -⟩ := permit
  refine ⟨held, ?_⟩
  split at found
  · simp at found
  next e entry => exact ⟨e, entry⟩

theorem State.mem_of_entry? {s : State} {q : SeqNo} {e : Entry} (found : s.entry? q = some e) :
    e ∈ s.list.entries ∧ e.seq = q :=
  ⟨List.mem_of_find?_eq_some found, State.seq_of_entry? found⟩

/-- The debounced level of lane x goes to active, and the assertion is taken. -/
theorem State.moves_assertion (s : State) (x : Lane) :
    s.moves spaced ((s.updateLane x fun l => { l with tdnActive := true, debounce := none }).takeAssertion x) := by
  generalize hu : (s.updateLane x fun l => { l with tdnActive := true, debounce := none }) = u
  have level : u.blocks = { s.blocks with tines := Lane.update s.blocks.tines x true } := by
    have same : Lane.update s.blocks.lane x (s.lane x).state.untimed = s.blocks.lane := Lane.update_eq_self x _
    rw [← hu, State.blocks_updateLane]
    simp only [same]
  have lane : (u.lane x).state.untimed = s.blocks.lane x := congrArg (fun b : Blocks => b.lane x) level
  have still (still : (s.blocks.lane x = .off ∨ s.blocks.lane x = .fault) ∨
      (true = false ∧ (s.blocks.lane x = .idle ∨ ∃ q, s.blocks.lane x = .claimed q)) ∨
      (true = true ∧ ∃ q, s.blocks.lane x = .down q 0)) : s.moves spaced u :=
    State.moves_of_move (.levels s.blocks x true still) level
  unfold State.takeAssertion
  split
  next off => exact still (.inl (.inl (by rw [← lane, off]; rfl)))
  next idle => exact State.moves_unpermittedDescent level (by rw [← lane, idle]; simp [LaneState.untimed])
  next q claimed =>
    have on : s.blocks.lane x ≠ .off := by rw [← lane, claimed]; simp [LaneState.untimed]
    split
    next permit =>
      split
      next below =>
        obtain ⟨standing, e, found⟩ := State.held_of_permit claimed permit
        obtain ⟨mem, rfl⟩ := State.mem_of_entry? found
        simp only [State.squeezesDone, State.laneRecord?, found, Option.map_some] at below
        have mem' : e ∈ s.blocks.entries := (congrArg Blocks.entries level) ▸ mem
        have standing' : s.blocks.hold.heldOn e.seq = true := by
          rw [← congrArg Blocks.hold level]
          simpa [State.blocks] using standing
        refine State.moves_of_move
          (.descends s.blocks x e mem' (by rw [← lane, claimed]; rfl) standing' below) ?_
        rw [State.blocks_setLane, level]
        rfl
      next => exact State.moves_faultLane level on _ _
    next => exact State.moves_unpermittedDescent level on
  next q ms down => exact still (.inr (.inr ⟨rfl, q, by rw [← lane, down]; rfl⟩))
  next q orphaned => exact State.moves_unpermittedDescent level (by rw [← lane, orphaned]; simp [LaneState.untimed])
  next fault =>
    refine State.moves_trans (still (.inl (.inr (by rw [← lane, fault]; rfl)))) ?_
    refine State.moves_trans (State.moves_of_eq ?_) (State.moves_handCause _ _ _ _)
    rw [State.blocks_updateLane]
    have same : Lane.update u.blocks.lane x (u.lane x).state.untimed = u.blocks.lane := Lane.update_eq_self x _
    have same' : Lane.update u.blocks.tines x (u.lane x).tdnActive = u.blocks.tines := Lane.update_eq_self x _
    simp only [same, same']

/-- The debounced level of lane x goes from active to inactive, and the release is taken. -/
theorem State.moves_release (s : State) (x : Lane) (active : (s.lane x).tdnActive = true) :
    s.moves spaced ((s.updateLane x fun l => { l with tdnActive := false, debounce := none }).takeRelease x) := by
  generalize hu : (s.updateLane x fun l => { l with tdnActive := false, debounce := none }) = u
  have level : u.blocks = { s.blocks with tines := Lane.update s.blocks.tines x false } := by
    have same : Lane.update s.blocks.lane x (s.lane x).state.untimed = s.blocks.lane := Lane.update_eq_self x _
    rw [← hu, State.blocks_updateLane]
    simp only [same]
  have lane : (u.lane x).state.untimed = s.blocks.lane x := congrArg (fun b : Blocks => b.lane x) level
  have still (still : (s.blocks.lane x = .off ∨ s.blocks.lane x = .fault) ∨
      (false = false ∧ (s.blocks.lane x = .idle ∨ ∃ q, s.blocks.lane x = .claimed q)) ∨
      (false = true ∧ ∃ q, s.blocks.lane x = .down q 0)) : s.moves spaced u :=
    State.moves_of_move (.levels s.blocks x false still) level
  have counted (q : SeqNo) : (u.countSqueeze x q).blocks = { s.blocks with
      entries := SleeperList.rewrite q (Entry.onLane x LaneRecord.squeezed) s.blocks.entries
      tines := Lane.update s.blocks.tines x false } := by
    have entry : (u.updateLaneRecord q x fun r => { r with squeezes := r.squeezes + 1 }).blocks = { u.blocks with
      entries := SleeperList.rewrite q (Entry.onLane x LaneRecord.squeezed) u.blocks.entries } := rfl
    have same : Lane.update s.blocks.lane x (u.lane x).state.untimed = s.blocks.lane := by
      rw [lane]; exact Lane.update_eq_self x _
    have same' : (u.lane x).tdnActive = false := by simp [← hu, State.lane, State.updateLane]
    have lane_same : (u.updateLaneRecord q x fun r => { r with squeezes := r.squeezes + 1 }).lane x = u.lane x := rfl
    unfold State.countSqueeze
    rw [State.blocks_updateLane, entry, level, lane_same]
    simp only [same, same', Lane.update_idem]
  unfold State.takeRelease
  split
  next q ms down =>
    refine State.moves_of_move (.squeezes s.blocks x q (.claimed q) active (.inl ⟨by rw [← lane, down]; rfl, rfl⟩)) ?_
    rw [State.blocks_setLane, counted]
    rfl
  next q orphaned =>
    have before : s.blocks.lane x = .orphaned q := by rw [← lane, orphaned]; rfl
    refine State.moves_of_move (.squeezes s.blocks x q (.orphaned q) active (.inr ⟨before, rfl⟩)) ?_
    rw [counted, ← before, Lane.update_eq_self]
  next fault => exact still (.inl (.inr (by rw [← lane, fault]; rfl)))
  next off => exact still (.inl (.inl (by rw [← lane, off]; rfl)))
  next idle => exact still (.inr (.inl ⟨rfl, .inl (by rw [← lane, idle]; rfl)⟩))
  next q claimed => exact still (.inr (.inl ⟨rfl, .inr ⟨q, by rw [← lane, claimed]; rfl⟩⟩))

/-- A debounce measure whose line is opposite to the debounced level ends in an assertion or a release. -/
theorem State.moves_takeDebounced {s : State} {x : Lane} {toActive : Bool} (measuring : s.measuring x toActive = true) :
    s.moves spaced (s.takeDebounced x) := by
  simp only [State.measuring, Bool.and_eq_true, decide_eq_true_eq] at measuring
  obtain ⟨⟨-, line⟩, level⟩ := measuring
  unfold State.takeDebounced
  dsimp only
  rw [line]
  cases toActive
  · exact State.moves_release s x level
  · exact State.moves_assertion s x

/-! ### The ends of timers (R76, R99, R101, R137) -/

theorem State.moves_expireDown (s : State) (x : Lane) : s.moves spaced (s.expireDown x) := by
  unfold State.expireDown
  split
  next q ms down =>
    refine State.moves_faultLane (tines := s.blocks.tines x) ?_ ?_ _ _
    · rw [Lane.update_eq_self]
    · simp [State.blocks, down, LaneState.untimed]
  next => exact s.moves_refl

theorem State.moves_expireLift (s : State) : s.moves spaced s.expireLift := by
  unfold State.expireLift
  split
  next q t ms lifting =>
    exact State.moves_of_move (.opens s.blocks q (.inl (by simp [State.blocks, lifting, HoldState.untimed]))) rfl
  next => exact s.moves_refl

theorem State.moves_expireOverdue (s : State) : s.moves spaced s.expireOverdue := by
  unfold State.expireOverdue
  split
  next q t ms held =>
    have hold : s.blocks.hold = (HoldState.held q t none).untimed := by simp [State.blocks, held, HoldState.untimed]
    have stopped : ({ s with hold := .held q t none } : State).blocks = s.blocks := by
      show { s.blocks with hold := (HoldState.held q t none).untimed } = s.blocks
      rw [← hold]
    refine State.moves_trans (State.moves_of_eq stopped) ?_
    exact State.moves_congr (State.moves_updateEntry { s with hold := .held q t none } q
      (f := fun e => { e with overdue := true }) fun e => ⟨rfl, rfl, fun _ => ⟨rfl, rfl⟩⟩) rfl rfl
  next => exact s.moves_refl

theorem State.moves_laneLosesPort (s : State) (x : Lane) : s.moves spaced (s.laneLosesPort x) := by
  have orphan (q : SeqNo) (named : s.blocks.lane x = .claimed q ∨ s.blocks.lane x = .down q 0) :
      s.moves spaced (s.setLane x (.orphaned q)) :=
    State.moves_of_move (.relanes s.blocks x (.orphaned q) (.inr (.inl ⟨q, named, rfl⟩))) (s.blocks_setLane x _)
  unfold State.laneLosesPort
  split
  next q claimed => exact State.moves_congr (orphan q (.inl (by simp [State.blocks, claimed, LaneState.untimed]))) rfl rfl
  next q ms down =>
    refine State.moves_trans (orphan q (.inr (by simp [State.blocks, down]))) ?_
    exact State.moves_congr (State.moves_handCause _ _ _ _) rfl rfl
  next => exact s.moves_refl

theorem State.moves_expirePresence (s : State) (p : Port) : s.moves spaced (s.expirePresence p) := by
  have blocks_lose (u : State) : u.moves spaced (u.blocksLosePort p) := by
    unfold State.blocksLosePort
    split
    · exact u.moves_laneLosesPort _
    · unfold State.holdLosesPort
      split
      · exact u.moves_handCause _ _ _
      · exact u.moves_refl
    · exact u.moves_endGrantIfAny
    · exact u.moves_refl
    · exact u.moves_refl
  unfold State.expirePresence
  split
  · exact s.moves_refl
  · exact State.moves_congr (blocks_lose (s.updatePort p fun v => { v with presence := .absent, keyCount := 0 })) rfl rfl

theorem State.moves_runExpiry (s : State) (c : Instr) : s.moves spaced (s.runExpiry c) := by
  unfold State.runExpiry
  split
  next reached =>
    split
    next x =>
      simp only [State.reaches, Bool.and_eq_true] at reached
      exact State.moves_takeDebounced reached.1
    next x =>
      simp only [State.reaches, Bool.and_eq_true] at reached
      exact State.moves_takeDebounced reached.1
    next x => exact s.moves_expireDown x
    next => exact s.moves_expireLift
    next => exact s.moves_expireOverdue
    next p => exact s.moves_expirePresence p
    next => exact s.moves_refl
  next => exact s.moves_refl

theorem State.moves_foldl {α : Type} {f : State → α → State} (each : ∀ (s : State) a, s.moves spaced (f s a)) (l : List α) (s : State) :
    s.moves spaced (l.foldl f s) := by
  induction l generalizing s with
  | nil => exact s.moves_refl
  | cons a l ih => exact State.moves_trans (each s a) (ih (f s a))

theorem State.moves_expireAtOnce (s : State) (old : Settings) : s.moves spaced (s.expireAtOnce old) :=
  State.moves_congr (State.moves_foldl State.moves_runExpiry _ { s with freeCount := s.countAfter (s.dueAtOnce old) }) rfl rfl

/-! ### Claims (R79, R80, R82, R89) -/

theorem State.moves_endClaim {s : State} {x : Lane} {q : SeqNo} {st : LaneStatus} (ended : st ≠ .claimed)
    (naming : (s.lane x).state = .claimed q ∨ (s.lane x).state = .orphaned q ∧ (s.lane x).tdnActive = false) :
    s.moves spaced (s.endClaim x q st) := by
  have naming' : s.blocks.lane x = .claimed q ∨ s.blocks.lane x = .orphaned q ∧ s.blocks.tines x = false := by
    simpa [State.blocks] using naming
  refine State.moves_trans (State.moves_of_move (.endsClaim s.blocks x q st ended naming') ?_) (State.moves_retire _)
  rw [State.blocks_setLane, State.blocks_setStatus]
  rfl

/-- The lanes after a revocation: the one revoked is IDLE, and the levels stand. -/
theorem State.revoke_lane (s : State) (x y : Lane) (q : SeqNo) :
    (s.revoke x q).lane y = if y = x then { s.lane x with state := .idle } else s.lane y := by
  simp [State.revoke, State.endClaim, State.lane, State.setLane, State.updateLane, State.setStatus,
    State.updateLaneRecord, State.updateEntry]

/-- Revocations of claims of lanes that are CLAIMED, or ORPHANED with their tines up. -/
theorem State.moves_revokeEach {which : State → Lane → Option SeqNo}
    (claimed : ∀ s x q, which s x = some q → (s.lane x).state = .claimed q ∨ (s.lane x).state = .orphaned q)
    (kept : ∀ s x y q q', which s x = some q → which (s.revoke x q) y = some q' → which s y = some q') (xs : List Lane)
    {s : State} (up : ∀ x q, which s x = some q → (s.lane x).state = .orphaned q → (s.lane x).tdnActive = false) :
    s.moves spaced (State.revokeEach which xs s) := by
  induction xs generalizing s with
  | nil => exact s.moves_refl
  | cons x xs ih =>
    unfold State.revokeEach
    cases h : which s x with
    | none => exact ih up
    | some q =>
      have naming : (s.lane x).state = .claimed q ∨ (s.lane x).state = .orphaned q ∧ (s.lane x).tdnActive = false :=
        (claimed s x q h).imp_right fun orphaned => ⟨orphaned, up x q h orphaned⟩
      have revoked : s.moves spaced (s.revoke x q) :=
        State.moves_congr (State.moves_endClaim (by simp) naming) rfl rfl
      refine State.moves_trans revoked (ih fun y q' named orphaned => ?_)
      rw [State.revoke_lane] at orphaned ⊢
      by_cases hy : y = x
      · simp [hy] at orphaned
      · simp only [hy, if_false] at orphaned ⊢
        exact up y q' (kept s x y q q' h named) orphaned

end

end Sys2Proof.Machine
end

section
/-! PROOFS. What a write of the settings, an edge, a pulse and a reset do to the blocks: each is a sequence of moves. -/

namespace Sys2Proof.Machine

section
variable {spaced : Prop}

/-! ### Settings that take effect (R70, R155) -/

/-- What the settings leave as it is before the lanes are refitted: the new lanes fitted alone tell. -/
theorem State.blocks_beforeFitting (s : State) (old new : Settings) :
    (Lane.all.foldl (fun s x => s.tdnPolarityEffect old x)
        ((({ s with store := { s.store with live := new } } : State).edgeModeEffect old).sdetPolarityEffect old)).blocks =
      { s.blocks with fitted := new.lanesFitted.get } ∧
    (Lane.all.foldl (fun s x => s.tdnPolarityEffect old x)
        ((({ s with store := { s.store with live := new } } : State).edgeModeEffect old).sdetPolarityEffect old)).live =
      new := by
  have measured (u : State) (x : Lane) :
      (u.tdnPolarityEffect old x).blocks = u.blocks ∧ (u.tdnPolarityEffect old x).live = u.live := by
    unfold State.tdnPolarityEffect State.remeasure
    split
    · exact ⟨rfl, rfl⟩
    · refine ⟨?_, rfl⟩
      rw [State.blocks_updateLane]
      have same : Lane.update u.blocks.lane x (u.lane x).state.untimed = u.blocks.lane := Lane.update_eq_self x _
      have same' : Lane.update u.blocks.tines x (u.lane x).tdnActive = u.blocks.tines := Lane.update_eq_self x _
      simp only [same, same']
  have measuredAll (xs : List Lane) : ∀ u : State,
      (xs.foldl (fun s x => s.tdnPolarityEffect old x) u).blocks = u.blocks ∧
        (xs.foldl (fun s x => s.tdnPolarityEffect old x) u).live = u.live := by
    induction xs with
    | nil => exact fun u => ⟨rfl, rfl⟩
    | cons x xs ih =>
      intro u
      obtain ⟨blocks, live⟩ := ih (u.tdnPolarityEffect old x)
      exact ⟨blocks.trans (measured u x).1, live.trans (measured u x).2⟩
  obtain ⟨blocks, live⟩ := measuredAll Lane.all
    ((({ s with store := { s.store with live := new } } : State).edgeModeEffect old).sdetPolarityEffect old)
  rw [blocks, live]
  unfold State.sdetPolarityEffect State.edgeModeEffect
  split <;> split <;> exact ⟨rfl, rfl⟩

/-- The change of fitting of one lane, in the words of the blocks. -/
theorem State.blocks_fittedEffect (s : State) (old : Settings) (x : Lane) :
    ∃ (l : LaneState) (granted : Bool) (freeze : FreezeState),
      (s.fittedEffect old x).blocks = { s.blocks with
        lane := Lane.update s.blocks.lane x l, granted := granted, freeze := freeze } ∧
      Blocks.refits (old.lanesFitted.get x) (s.live.lanesFitted.get x) (s.blocks.lane x) l (s.blocks.tines x) ∧
      (granted = true → s.blocks.granted = true ∧ freeze = s.blocks.freeze ∧
        (old.lanesFitted.get x = false → s.live.lanesFitted.get x = true → l ≠ .fault)) := by
  have kept : s.blocks = { s.blocks with lane := Lane.update s.blocks.lane x (s.blocks.lane x) } := by
    rw [Lane.update_eq_self]
  rw [State.fittedEffect_eq]
  split
  next fits =>
    obtain ⟨was, is⟩ := fits
    split
    next active =>
      generalize hu : s.setLane x .idle = u
      have idle : (u.lane x).state = .idle := by simp [← hu, State.lane, State.setLane, State.updateLane]
      have faulted : (u.faultLane x .unpermittedDescent 1).blocks =
          { s.blocks with lane := Lane.update s.blocks.lane x .fault, granted := false } := by
        have named : (u.lane x).state.named? = none := by rw [idle]; rfl
        simp only [State.faultLane, named, State.failEntry, State.blocks_endGrantIfAny, State.blocks_raise,
          State.blocks_updateLane]
        rw [← hu, State.blocks_setLane]
        have level : ((s.setLane x .idle).lane x).tdnActive = s.blocks.tines x := by
          simp [State.lane, State.setLane, State.updateLane, State.blocks]
        simp only [Lane.update_idem, level, Lane.update_eq_self]
        rfl
      have handed : ((u.faultLane x .unpermittedDescent 1).handCause .unpermittedDescent (.lane x) none).blocks =
          { (u.faultLane x .unpermittedDescent 1).blocks with
            granted := false
            freeze := ((u.faultLane x .unpermittedDescent 1).handCause .unpermittedDescent (.lane x) none).freeze.state } := by
        have granted : (u.faultLane x .unpermittedDescent 1).blocks.granted = false := by rw [faulted]
        unfold State.handCause
        split
        · rfl
        next frozen =>
          rw [← granted]
          rfl
      refine ⟨.fault, false, _, handed.trans (by rw [faulted]), .inr (.inl ⟨was, is, .inr rfl⟩), by simp⟩
    next inactive =>
      refine ⟨.idle, s.blocks.granted, s.blocks.freeze, State.blocks_setLane s x .idle,
        .inr (.inl ⟨was, is, .inl ⟨rfl, by simpa [State.blocks] using inactive⟩⟩), fun given => ⟨given, rfl, fun _ _ => by simp⟩⟩
  next same =>
    split
    next unfits =>
      obtain ⟨was, is⟩ := unfits
      exact ⟨.off, s.blocks.granted, s.blocks.freeze, State.blocks_setLane s x .off, .inr (.inr ⟨was, is, rfl⟩),
        fun given => ⟨given, rfl, fun _ _ => by simp⟩⟩
    next same' =>
      have both : old.lanesFitted.get x = s.live.lanesFitted.get x := by
        cases h : old.lanesFitted.get x <;> cases h' : s.live.lanesFitted.get x <;> simp_all
      exact ⟨s.blocks.lane x, s.blocks.granted, s.blocks.freeze, kept, .inl ⟨both, rfl⟩,
        fun given => ⟨given, rfl, fun was is => absurd (was.symm.trans (both.trans is)) (by simp)⟩⟩

/-- The changes of fitting of some lanes, one after the other. -/
theorem State.blocks_fittedEffects (old : Settings) {xs : List Lane} (once : xs.Nodup) : ∀ s : State,
    ∃ (lane : Lane → LaneState) (granted : Bool) (freeze : FreezeState),
      (xs.foldl (fun s x => s.fittedEffect old x) s).blocks = { s.blocks with
        lane := lane, granted := granted, freeze := freeze } ∧
      (∀ x ∈ xs, Blocks.refits (old.lanesFitted.get x) (s.live.lanesFitted.get x) (s.blocks.lane x) (lane x)
        (s.blocks.tines x)) ∧
      (∀ x, x ∉ xs → lane x = s.blocks.lane x) ∧
      (granted = true → s.blocks.granted = true ∧ freeze = s.blocks.freeze ∧
        ∀ x ∈ xs, old.lanesFitted.get x = false → s.live.lanesFitted.get x = true → lane x ≠ .fault) := by
  induction xs with
  | nil => exact fun s => ⟨s.blocks.lane, s.blocks.granted, s.blocks.freeze, rfl, by simp, fun _ _ => rfl, by simp⟩
  | cons x xs ih =>
    intro s
    obtain ⟨new, rest⟩ := List.nodup_cons.1 once
    obtain ⟨l, g, z, blocks, here, kept⟩ := s.blocks_fittedEffect old x
    obtain ⟨lane, granted, freeze, blocks', each, others, kept'⟩ := ih rest (s.fittedEffect old x)
    have live : (s.fittedEffect old x).live = s.live := by
      rw [State.fittedEffect_eq, State.live, State.live]
      split
      · split <;> simp
      · split <;> simp
    rw [blocks] at blocks' each others kept'
    rw [live] at each kept'
    have elsewhere {y : Lane} (mem : y ∈ xs) : y ≠ x := fun same => new (same ▸ mem)
    have at_x : lane x = l := by simpa using others x new
    refine ⟨lane, granted, freeze, blocks', fun y mem => ?_, fun y out => ?_, fun given => ?_⟩
    · rcases List.mem_cons.1 mem with rfl | later
      · rw [at_x]; exact here
      · simpa [elsewhere later] using each y later
    · obtain ⟨hy, out'⟩ := not_or.1 (mt List.mem_cons.2 out)
      simpa [hy] using others y out'
    · obtain ⟨given', freeze', sound'⟩ := kept' given
      obtain ⟨given'', freeze'', sound⟩ := kept given'
      refine ⟨given'', freeze'.trans freeze'', fun y mem => ?_⟩
      rcases List.mem_cons.1 mem with rfl | later
      · rw [at_x]; exact sound
      · exact sound' y later

/-- New settings take effect: the lanes fitted change in a quiescent part alone, and then timers expire. -/
theorem State.moves_writeSettings {s : State} {new : Settings}
    (idle : new.lanesFitted = s.live.lanesFitted ∨ s.fittedIdle = true) : s.moves spaced (s.writeSettings new) := by
  rw [State.writeSettings_eq]
  unfold State.settingsEffect
  dsimp only
  obtain ⟨before, live⟩ := s.blocks_beforeFitting s.live new
  generalize Lane.all.foldl (fun s' x => s'.tdnPolarityEffect s.live x)
    ((({ s with store := { s.store with live := new } } : State).edgeModeEffect s.live).sdetPolarityEffect s.live) = u
    at before live ⊢
  refine State.moves_trans ?_ (State.moves_expireAtOnce _ _)
  obtain ⟨lane, granted, freeze, blocks, each, -, kept⟩ :=
    State.blocks_fittedEffects s.live (xs := Lane.all) (by decide) u
  rw [before] at blocks each kept
  rw [live] at each kept
  rcases idle with same | idle
  · have unchanged (v : State) (hv : v.live = new) (x : Lane) : v.fittedEffect s.live x = v := by
      rw [State.fittedEffect_eq, hv, same]
      cases s.live.lanesFitted.get x <;> simp
    have none_changes : Lane.all.foldl (fun s' x => s'.fittedEffect s.live x) u = u := by
      simp [Lane.all, unchanged u live]
    refine State.moves_of_eq ?_
    rw [none_changes, before, same]
    rfl
  · have idle' : ∀ x, s.blocks.fitted x = true → s.blocks.lane x = .idle := by
      intro x fitted
      have all := List.all_eq_true.1 idle x (Lane.mem_all x)
      simpa [State.blocks, LaneState.isIdle, show s.isFitted x = true from fitted] using all
    refine State.moves_of_move (.refits s.blocks lane new.lanesFitted.get granted freeze idle'
      (fun x => each x (Lane.mem_all x)) fun given => ?_) blocks
    obtain ⟨given', freeze', sound⟩ := kept given
    refine ⟨given', freeze', fun x fits => ?_⟩
    cases was : s.live.lanesFitted.get x with
    | false => exact sound x (Lane.mem_all x) was fits
    | true =>
      rcases each x (Lane.mem_all x) with ⟨-, lane_same⟩ | ⟨unfit, -⟩ | ⟨-, unfit, -⟩
      · rw [lane_same]
        show s.blocks.lane x ≠ _
        rw [idle' x was]
        simp
      · exact absurd (was.symm.trans unfit) (by simp)
      · exact absurd (fits.symm.trans unfit) (by simp)

/-! ### New entries (R28, R29, R34, R44) -/

/-- The first value from q on that no entry holds lies within as many values as there are entries (R34). -/
theorem SleeperList.firstFree_spec (held : List SeqNo) (fuel : Nat) (q : SeqNo) :
    ∃ k ≤ fuel, SleeperList.firstFree held fuel q = q + BitVec.ofNat 16 k ∧
      (∀ j < k, q + BitVec.ofNat 16 j ∈ held) ∧ (k < fuel → SleeperList.firstFree held fuel q ∉ held) := by
  have succ (j : Nat) : (BitVec.ofNat 16 (j + 1) : SeqNo) = 1 + BitVec.ofNat 16 j := by
    rw [BitVec.ofNat_add, BitVec.add_comm]
    rfl
  induction fuel generalizing q with
  | zero => exact ⟨0, Nat.le_refl 0, by simp [SleeperList.firstFree], by simp, by simp⟩
  | succ fuel ih =>
    unfold SleeperList.firstFree
    split
    next taken =>
      obtain ⟨k, within, value, passed, free⟩ := ih (q + 1)
      refine ⟨k + 1, by omega, ?_, fun j below => ?_, fun inside => free (by omega)⟩
      · rw [value, succ, BitVec.add_assoc]
      · cases j with
        | zero => simpa using taken
        | succ j =>
          rw [succ, ← BitVec.add_assoc]
          exact passed j (by omega)
    next free => exact ⟨0, by omega, by simp, by simp, fun _ => free⟩

/-- The seq that a new entry takes is the first from next seq on that no entry holds: there are fewer entries than values. -/
theorem SleeperList.takenSeq_spec {l : SleeperList} (few : l.entries.length ≤ 48) :
    ∃ k ≤ l.entries.length, l.takenSeq = l.nextSeq + BitVec.ofNat 16 k ∧ l.takenSeq ∉ l.entries.map Entry.seq ∧
      ∀ j < k, l.nextSeq + BitVec.ofNat 16 j ∈ l.entries.map Entry.seq := by
  obtain ⟨k, within, value, passed, free⟩ :=
    SleeperList.firstFree_spec (l.entries.map Entry.seq) l.entries.length l.nextSeq
  refine ⟨k, within, value, ?_, passed⟩
  rcases Nat.lt_or_ge k l.entries.length with inside | all_passed
  · exact free inside
  · /- All values up to the last are held: with that one there would be more values held than entries. -/
    intro taken
    have length : k = l.entries.length := Nat.le_antisymm within all_passed
    have subset : (List.range (k + 1)).map (fun j => l.nextSeq + BitVec.ofNat 16 j) ⊆ l.entries.map Entry.seq := by
      intro v mem
      obtain ⟨j, below, rfl⟩ := List.mem_map.1 mem
      rcases Nat.lt_succ_iff_lt_or_eq.1 (List.mem_range.1 below) with lt | rfl
      · exact passed j lt
      · exact value ▸ taken
    have once : ((List.range (k + 1)).map fun j => l.nextSeq + BitVec.ofNat 16 j).Nodup := by
      refine List.pairwise_map.2 (List.Pairwise.imp_of_mem (fun {i j} hi hj other same => other ?_) List.nodup_range)
      have hi' := List.mem_range.1 hi
      have hj' := List.mem_range.1 hj
      have nat := congrArg BitVec.toNat (BitVec.add_right_inj l.nextSeq |>.1 same)
      simp only [BitVec.toNat_ofNat] at nat
      rwa [Nat.mod_eq_of_lt (by omega), Nat.mod_eq_of_lt (by omega)] at nat
    have := once.length_le_of_subset subset
    simp only [List.length_map, List.length_range] at this
    omega

theorem State.moves_create {s : State} {position : Int} {width : Nat} {origin : Origin}
    (room : s.list.entries.length < 48)
    (apart : SleeperList.rising s.list.entries → spaced → ∀ f ∈ s.list.entries, f.position ≠ position) :
    s.moves spaced (s.create position width origin) := by
  obtain ⟨-, -, -, fresh, -⟩ := SleeperList.takenSeq_spec (l := s.list) (Nat.le_of_lt room)
  exact State.moves_of_move (.creates s.blocks
    (s.newEntry position width origin (s.isTailPosition position && s.list.pendingGap)) room fresh
    (fun x => by simp [State.newEntry]) apart) rfl

/-- The last of entries with rising positions lies above all others. -/
theorem SleeperList.le_last {es : List Entry} (rising : SleeperList.rising es) {last : Entry}
    (h : es.getLast? = some last) : ∀ e ∈ es, e.position ≤ last.position := by
  obtain ⟨init, rfl⟩ := List.getLast?_eq_some_iff.1 h
  intro e mem
  rcases List.mem_append.1 mem with first | second
  · exact Int.le_of_lt ((List.pairwise_append.1 rising).2.2 e first last (by simp))
  · simp at second
    exact second ▸ Int.le_refl _

theorem State.moves_decideOffer (s : State) (centre : Int) (width : Nat) : s.moves spaced (s.decideOffer centre width) := by
  unfold State.decideOffer
  split
  next e near =>
    exact State.moves_updateEntry s e.seq (f := fun e => { e with seen := min (e.seen + 1) 15 })
      fun _ => ⟨rfl, rfl, fun _ => ⟨rfl, rfl⟩⟩
  next far =>
    split
    next => exact State.moves_of_eq rfl
    next above =>
      split
      next => exact State.moves_of_eq rfl
      next room =>
        refine State.moves_create (Nat.lt_of_not_le room) fun rising _ f mem => ?_
        cases h : s.list.entries.getLast? with
        | none => simp [List.getLast?_eq_none_iff.1 h] at mem
        | some last =>
          have below := SleeperList.le_last rising h f mem
          simp only [State.tailRejects, h, Bool.or_eq_true, decide_eq_true_eq, not_or, Int.not_le] at above
          omega

theorem State.moves_offer (s : State) (centre : Int) (width : Nat) : s.moves spaced (s.offer centre width) :=
  State.moves_congr (State.moves_decideOffer
    { s with detector := { s.detector with candidates := s.detector.candidates + 1 } } centre width) rfl rfl

/-! ### Edges and pulses (R2 to R9, R17 to R31) -/

theorem State.moves_makeCandidate (s : State) (c : Candidate) : s.moves spaced (s.makeCandidate c) := by
  unfold State.makeCandidate
  dsimp only
  split
  · split
    · exact State.moves_of_eq rfl
    · exact State.moves_congr (State.moves_offer { s with freeCount := s.freeCount + 1 } c.centre c.width) rfl rfl
  · exact s.moves_offer _ _

theorem State.moves_takeEdge (s : State) (active : Bool) : s.moves spaced (s.takeEdge active) := by
  have activeEdge (u : State) : u.moves spaced u.takeActiveEdge := by
    unfold State.takeActiveEdge
    split
    · exact u.moves_makeCandidate _
    · exact u.moves_refl
    · exact State.moves_of_eq rfl
  have inactiveEdge (u : State) : u.moves spaced u.takeInactiveEdge := by
    unfold State.takeInactiveEdge
    split
    · exact u.moves_refl
    · exact u.moves_makeCandidate _
    · split
      · exact u.moves_refl
      · unfold State.closeInFlight
        dsimp only
        split
        · exact State.moves_of_eq rfl
        · exact State.moves_congr (State.moves_makeCandidate u.dropInFlight _) rfl rfl
  have sensed : ({ s with detector := { s.detector with sdetActive := active } } : State).blocks = s.blocks := rfl
  unfold State.takeEdge
  dsimp only
  split
  · exact State.moves_of_eq rfl
  · split
    · exact State.moves_congr (activeEdge _) sensed rfl
    · exact State.moves_congr (inactiveEdge _) sensed rfl

theorem State.moves_sdetEdge (s : State) (active : Bool) : s.moves spaced (s.sdetEdge active) := by
  unfold State.sdetEdge
  dsimp only
  split
  · exact s.moves_refl
  · generalize (if active = true then s.live.sdetPolarity.activeLevel else s.live.sdetPolarity.inactiveLevel) = level
    split
    · exact State.moves_of_eq rfl
    · exact State.moves_congr (State.moves_takeEdge { s with pins := { s.pins with sdet := level } } active) rfl rfl

theorem State.moves_takeChange (s : State) : s.moves spaced s.takeChange := by
  unfold State.takeChange
  split
  · exact s.moves_refl
  · exact s.moves_refl
  · exact State.moves_congr (State.moves_retire { s with list := { s.list with changeWaits := false } }) rfl rfl

theorem State.moves_offerMade (s : State) : s.moves spaced s.offerMade := by
  unfold State.offerMade
  split
  · exact s.moves_refl
  · exact s.moves_refl
  · exact State.moves_congr (State.moves_offer { s with detector := { s.detector with made := none } } _ _) rfl rfl

theorem State.moves_motionWatch (s : State) : s.moves spaced s.motionWatch := by
  unfold State.motionWatch
  split
  · split
    · exact State.moves_congr s.moves_haltAtAxis rfl rfl
    · exact s.moves_refl
  · split
    · split
      · exact s.moves_handCause _ _ _
      · exact State.moves_congr s.moves_haltAtAxis rfl rfl
    · exact s.moves_refl

theorem State.moves_listWatch (s : State) : s.moves spaced s.listWatch := by
  unfold State.listWatch
  dsimp only
  split
  · split
    · exact State.moves_of_eq rfl
    · exact State.moves_congr (State.moves_retire { s with freeCount := s.freeCount + 1 }) rfl rfl
  · exact s.moves_retire

theorem State.moves_takePulse (s : State) : s.moves spaced s.takePulse := by
  have watched (u : State) (d : Direction) : u.moves spaced (u.axisChange d) := by
    have turned (v : State) (e : Event) (P : Prop) [Decidable P] : (if P then v.raise e else v).blocks = v.blocks := by
      split <;> rfl
    unfold State.axisChange
    dsimp only
    generalize hv : (if d = .forward ∧ u.axis.direction = .reverse then u.raise .reversed else u) = v
    have same : (v.detectorWatch v.axis.direction).blocks = u.blocks := by rw [State.blocks_detectorWatch, ← hv, turned]
    exact State.moves_trans (State.moves_trans (State.moves_of_eq same) (State.moves_listWatch _)) (State.moves_motionWatch _)
  unfold State.takePulse
  dsimp only
  generalize s.axis.afterPulse s.live.scalerBase s.live.scalerPattern
    (AxisUnit.pulseDirection s.live.directionSign s.pins.odb) = u
  split
  · exact State.moves_trans (State.moves_of_eq rfl) (watched { s with axis := u } s.axis.direction)
  · exact s.moves_handCause _ _ _

/-! ### Resets (R159, R160) -/

/-- The blocks after STARTED and the samples are the reset values: the samples move no lane (R32, R93, R127). -/
theorem State.blocks_started {s : State} (frozen : s.freeze.state = .frozen) : s.started.blocks = s.blocks := by
  have remeasured (u : State) (x : Lane) : (u.remeasure x).blocks = u.blocks := by
    unfold State.remeasure
    rw [State.blocks_updateLane]
    have same : Lane.update u.blocks.lane x (u.lane x).state.untimed = u.blocks.lane := Lane.update_eq_self x _
    have same' : Lane.update u.blocks.tines x (u.lane x).tdnActive = u.blocks.tines := Lane.update_eq_self x _
    simp only [same, same']
  have handed (u : State) (frozen : u.freeze.state = .frozen) : (u.handCause .line .frzin none).blocks = u.blocks := by
    unfold State.handCause
    rw [frozen]
    simp only [State.blocks, frozen]
    rfl
  unfold State.started State.sampleLines
  simp only [Lane.all, List.foldl_cons, List.foldl_nil, remeasured]
  split
  · refine (handed _ ?_).trans rfl
    exact frozen
  · rfl

theorem State.moves_resetBlocks (s u : State) (ports : PerPort PortState) (cause : FreezeCause) (source : FreezeSource) :
    s.moves spaced (u.resetBlocks ports cause source) := by
  refine State.moves_of_move (.resets s.blocks u.live.lanesFitted.get) ?_
  simp only [State.blocks, State.lane, State.resetBlocks, PerLane.get_ofFn, State.resetLane, State.isFitted,
    State.live, LaneController.reset, Blocks.mk.injEq, true_and, HoldState.untimed, MotionState.isGranted]
  refine ⟨?_, rfl⟩
  funext x
  by_cases fits : u.store.live.lanesFitted.get x = true <;> simp [fits, LaneState.untimed]

end

end Sys2Proof.Machine
end

section
/-! PROOFS. What each request does to the blocks, and that every step is a sequence of moves. -/

namespace Sys2Proof.Machine

section
variable {spaced : Prop}

/-! ### Judging a request -/

/-- A judged request does what it does when accepted, with every check passed, or nothing (R142). -/
theorem State.moves_judge {s : State} {checks : List (Bool × Result)} {accepted : Reply}
    (does : (∀ c ∈ checks, c.1 = false) → s.moves spaced accepted.state) :
    s.moves spaced (Reply.judge s checks accepted).state := by
  unfold Reply.judge
  cases low : Operands.lowestRefusal checks with
  | some r => exact s.moves_refl
  | none => exact does ((Operands.lowestRefusal_eq_none_iff checks).1 low)

/-- A request taken changes the blocks as its judgement does, or not at all. -/
theorem State.moves_takeRequest {s : State} {p : Port} {code : Byte} {judge : State → Request → Reply}
    (does : ∀ r, (s.popQueue p).moves spaced (judge (s.popQueue p) r).state) :
    s.moves spaced (s.takeRequest p code judge) := by
  unfold State.takeRequest
  split
  · exact s.moves_refl
  next r _ => exact State.moves_congr (does r) rfl (by simp)

/-! ### Requests that read, and those on ports, events and the store -/

theorem State.moves_judgeReadState (s : State) (r : Request) : s.moves spaced (s.judgeReadState r).state := by
  unfold State.judgeReadState
  split <;> exact s.moves_refl

theorem State.moves_judgeReadEntry (p : Port) (s : State) (r : Request) :
    s.moves spaced (State.judgeReadEntry p s r).state := by
  unfold State.judgeReadEntry
  split
  · exact State.moves_judge fun _ => by split <;> exact s.moves_refl
  · exact s.moves_refl

theorem State.moves_judgeReadRegister (p : Port) (s : State) (r : Request) :
    s.moves spaced (State.judgeReadRegister p s r).state := by
  unfold State.judgeReadRegister
  split
  · exact State.moves_judge fun _ => s.moves_refl
  · exact s.moves_refl

theorem State.moves_judgeReadPassages (p : Port) (s : State) (r : Request) :
    s.moves spaced (State.judgeReadPassages p s r).state := by
  unfold State.judgeReadPassages
  split
  · exact State.moves_judge fun _ => s.moves_refl
  · exact s.moves_refl

theorem State.moves_judgeReadCounters (p : Port) (s : State) (r : Request) :
    s.moves spaced (State.judgeReadCounters p s r).state := by
  unfold State.judgeReadCounters
  split
  · exact State.moves_judge fun _ => s.moves_refl
  · exact s.moves_refl

theorem State.moves_judgeReadSetting (p : Port) (s : State) (r : Request) :
    s.moves spaced (State.judgeReadSetting p s r).state := by
  unfold State.judgeReadSetting
  split
  · split
    · exact s.moves_refl
    · exact State.moves_judge fun _ => s.moves_refl
  · exact s.moves_refl

theorem State.moves_judgeReadFault (p : Port) (s : State) (r : Request) :
    s.moves spaced (State.judgeReadFault p s r).state := by
  unfold State.judgeReadFault
  split
  · split
    · exact s.moves_refl
    · exact State.moves_judge fun _ => s.moves_refl
  · exact s.moves_refl

theorem State.moves_judgePresent (p : Port) (s : State) (r : Request) :
    s.moves spaced (State.judgePresent p s r).state := by
  unfold State.judgePresent
  split <;> exact s.moves_refl

theorem State.moves_judgeKey (p : Port) (s : State) (r : Request) : s.moves spaced (State.judgeKey p s r).state := by
  unfold State.judgeKey
  split
  · exact State.moves_judge fun _ => by split <;> exact s.moves_refl
  · exact s.moves_refl

theorem State.moves_judgeReadEvents (p : Port) (s : State) (r : Request) :
    s.moves spaced (State.judgeReadEvents p s r).state := by
  unfold State.judgeReadEvents
  split <;> exact State.moves_of_eq rfl

theorem State.moves_judgeEventMask (p : Port) (s : State) (r : Request) :
    s.moves spaced (State.judgeEventMask p s r).state := by
  unfold State.judgeEventMask
  split <;> exact State.moves_of_eq rfl

theorem State.moves_judgeStatusInterval (p : Port) (s : State) (r : Request) :
    s.moves spaced (State.judgeStatusInterval p s r).state := by
  unfold State.judgeStatusInterval
  split <;> exact State.moves_of_eq rfl

theorem State.moves_judgeSave (p : Port) (s : State) (r : Request) : s.moves spaced (State.judgeSave p s r).state := by
  unfold State.judgeSave
  split
  · exact State.moves_judge fun _ => State.moves_of_eq rfl
  · exact s.moves_refl

theorem State.moves_judgeRestart (p : Port) (s : State) (r : Request) :
    s.moves spaced (State.judgeRestart p s r).state := by
  unfold State.judgeRestart
  split
  · exact State.moves_judge fun _ => State.moves_of_eq rfl
  · exact s.moves_refl

theorem State.moves_judgeSetRoles (p : Port) (s : State) (r : Request) :
    s.moves spaced (State.judgeSetRoles p s r).state := by
  unfold State.judgeSetRoles
  split
  · exact s.moves_refl
  · exact State.moves_judge fun _ => State.moves_of_eq rfl

/-! ### Requests on the list and the axis -/

/-- A quiescent part has its hold FREE, no grant, and its fitted lanes IDLE (R142). -/
theorem State.quiescent_iff (s : State) : s.quiescent = true ↔
    s.hold = .free ∧ s.motion.state = .halt ∧ ∀ x, s.isFitted x = true → (s.lane x).state = .idle := by
  have halted : (!s.motion.state.isGranted) = true ↔ s.motion.state = .halt := by
    cases s.motion.state <;> simp [MotionState.isGranted]
  have idle : s.fittedIdle = true ↔ ∀ x, s.isFitted x = true → (s.lane x).state = .idle := by
    simp only [State.fittedIdle, List.all_eq_true, Lane.mem_all, forall_const, Bool.or_eq_true, Bool.not_eq_true',
      LaneState.isIdle, decide_eq_true_eq]
    refine forall_congr' fun x => ?_
    cases s.isFitted x <;> simp
  rw [State.quiescent, Bool.and_eq_true, Bool.and_eq_true, halted, idle, decide_eq_true_eq, and_assoc]

theorem State.moves_judgeAnnotate (p : Port) (s : State) (r : Request) :
    s.moves spaced (State.judgeAnnotate p s r).state := by
  have write (q : SeqNo) (a : Annotation) (adjusted : Bool) : s.moves spaced (s.annotate p q a adjusted).state := by
    refine State.moves_judge fun _ => ?_
    split
    · exact s.moves_refl
    · exact State.moves_updateEntry s q (f := fun e => e.annotated a)
        fun e => ⟨rfl, rfl, fun x => by simp [Entry.annotated]⟩
  unfold State.judgeAnnotate
  split
  · dsimp only
    split
    · exact write _ _ _
    · exact s.moves_refl
  · exact s.moves_refl

/-- No entry lies at a position that PLACE accepts, under settings that hold entries apart (R43). -/
theorem State.apart_of_not_crowds {s : State} {position : Int} (stands : 1 ≤ s.live.minimumSpacing)
    (free : s.crowds position = false) : ∀ f ∈ s.list.entries, f.position ≠ position := by
  intro f mem same
  have far := List.any_eq_false.1 free f mem
  simp only [Flags.within, same, Int.sub_self, Bool.and_eq_true, decide_eq_true_eq, and_self] at far
  omega

theorem State.moves_judgePlace (p : Port) (s : State) (r : Request) (stands : spaced → 1 ≤ s.live.minimumSpacing) :
    s.moves spaced (State.judgePlace p s r).state := by
  unfold State.judgePlace
  split
  next b3 b2 b1 b0 wh wl _ =>
    refine State.moves_judge fun passes => ?_
    simp only [List.forall_mem_cons] at passes
    obtain ⟨-, -, -, -, -, uncrowded, room, -⟩ := passes
    exact State.moves_create (Nat.lt_of_not_le (of_decide_eq_false room))
      fun _ spaced => State.apart_of_not_crowds (stands spaced) uncrowded
  next => exact s.moves_refl

theorem State.moves_judgeStrike (p : Port) (s : State) (r : Request) :
    s.moves spaced (State.judgeStrike p s r).state := by
  unfold State.judgeStrike
  split
  next hi lo _ =>
    dsimp only
    refine State.moves_judge fun passes => ?_
    simp only [List.forall_mem_cons] at passes
    obtain ⟨-, -, -, untouched, unheld, -⟩ := passes
    split
    next => exact s.moves_refl
    next e found =>
      rw [found] at untouched
      have seq := State.seq_of_entry? found
      obtain ⟨-, before, after, held, earlier⟩ := List.find?_eq_some_iff_append.1 found
      have rest : s.list.entries.eraseP (fun f => decide (f.seq = e.seq)) = before ++ after := by
        rw [held, List.eraseP_append_right _ (by simpa [seq] using earlier), List.eraseP_cons_of_pos (by simp)]
      have unclaimed (x : Lane) : (e.lanes.get x).status ≠ .claimed := by
        have each := List.any_eq_false.1 untouched _ ((PerLane.mem_toList e.lanes _).2 ⟨x, rfl⟩)
        intro claimed
        simp [claimed] at each
      have unnamed : s.blocks.hold.named? ≠ some e.seq := by simpa [State.blocks, seq] using unheld
      refine State.moves_trans (State.moves_of_move (.departs s.blocks before e after .struck held unclaimed unnamed) ?_)
        (State.moves_retire _)
      rw [State.blocks_depart, rest]
  next => exact s.moves_refl

theorem State.moves_judgeTakePassages (p : Port) (s : State) (r : Request) :
    s.moves spaced (State.judgeTakePassages p s r).state := by
  unfold State.judgeTakePassages
  split
  · exact State.moves_judge fun _ => State.moves_of_move (.takesOldest s.blocks _) rfl
  · exact s.moves_refl

theorem State.moves_judgeFlush (p : Port) (s : State) (r : Request) : s.moves spaced (State.judgeFlush p s r).state := by
  unfold State.judgeFlush
  split
  · refine State.moves_judge fun passes => ?_
    simp only [State.protectedChecks, List.forall_mem_cons] at passes
    obtain ⟨-, -, quiet, -⟩ := passes
    obtain ⟨free, -, idle⟩ := s.quiescent_iff.1 (by simpa using quiet)
    exact State.moves_of_move (.flushes s.blocks (by simp [State.blocks, free]) fun x fitted => by
      simpa [State.blocks] using idle x fitted) rfl
  · exact s.moves_refl

theorem State.moves_judgeAxisPreset (p : Port) (s : State) (r : Request) :
    s.moves spaced (State.judgeAxisPreset p s r).state := by
  unfold State.judgeAxisPreset
  split
  · exact State.moves_judge fun _ => State.moves_of_eq rfl
  · exact s.moves_refl

/-! ### Requests on the hold -/

theorem State.moves_judgeHoldTake (p : Port) (s : State) (r : Request) :
    s.moves spaced (State.judgeHoldTake p s r).state := by
  unfold State.judgeHoldTake
  split
  next hi lo _ =>
    refine State.moves_judge fun passes => ?_
    simp only [List.forall_mem_cons] at passes
    obtain ⟨-, -, -, free, -, -, halted, -⟩ := passes
    split
    next => exact s.moves_refl
    next e found =>
      split
      next => exact s.moves_refl
      next t _ =>
        obtain ⟨mem, -⟩ := State.mem_of_entry? found
        have lifted (u : State) (hold : u.blocks.hold = .free) (halted : u.blocks.granted = false)
            (held : ∃ f ∈ u.blocks.entries, f.seq = e.seq) : u.moves spaced { u with hold := .lifting e.seq t 0 } := by
          obtain ⟨f, mem, seq⟩ := held
          exact State.moves_of_move (.lifts u.blocks f mem hold halted) (by rw [seq]; rfl)
        have free' : s.blocks.hold = .free := by simpa [State.blocks] using free
        show s.moves spaced (s.standHold e t)
        unfold State.standHold
        dsimp only
        split
        · refine State.moves_trans (State.moves_updateEntry s e.seq (f := Entry.deepRaised) fun f => ⟨rfl, rfl, fun x => ?_⟩)
            (lifted _ free' halted ?_)
          · simp only [Entry.deepRaised, PerLane.get_map, LaneRecord.deepRaised]
            split <;> simp
          · exact (SleeperList.holds_congr (SleeperList.map_seq_rewrite (f := Entry.deepRaised) (fun _ => rfl) s.list.entries)
              e.seq).2 ⟨e, mem, rfl⟩
        · exact lifted s free' halted ⟨e, mem, rfl⟩
  next => exact s.moves_refl

theorem State.moves_judgeHoldSet (p : Port) (s : State) (r : Request) :
    s.moves spaced (State.judgeHoldSet p s r).state := by
  unfold State.judgeHoldSet
  split
  · refine State.moves_judge fun _ => ?_
    unfold State.acceptHoldSet
    split
    next q t ms lifting =>
      exact State.moves_of_move (.stands s.blocks q (by simp [State.blocks, lifting, HoldState.untimed])) rfl
    next => exact s.moves_refl
  · exact s.moves_refl

theorem State.moves_judgeHoldClear (p : Port) (s : State) (r : Request) :
    s.moves spaced (State.judgeHoldClear p s r).state := by
  unfold State.judgeHoldClear
  split
  · refine State.moves_judge fun _ => ?_
    unfold State.acceptHoldClear
    split
    next => exact s.moves_refl
    next q opening =>
      have opening' : s.blocks.hold = .opening q ⟨0, 0, 0⟩ := by
        cases h : s.hold <;> simp_all [HoldState.openingSeq?, State.blocks, HoldState.untimed]
      exact State.moves_trans (State.moves_of_move (t := { s with hold := .free }) (.frees s.blocks q opening') rfl)
        (State.moves_congr (State.moves_retire (({ s with hold := .free } : State).raise .holdFree)) rfl rfl)
  · exact s.moves_refl

/-- Revocations on the held entry concern lanes that are CLAIMED or ORPHANED on it. -/
theorem State.claimOn_iff (s : State) (q : SeqNo) (x : Lane) :
    s.claimOn (some q) x = true ↔ (s.lane x).state = .claimed q ∨ (s.lane x).state = .orphaned q := by
  unfold State.claimOn
  cases (s.lane x).state <;> simp [LaneState.claimedOrOrphaned?, eq_comm]

/-- Revocations leave a lane as it was, or IDLE. -/
theorem State.revokeEach_lane (which : State → Lane → Option SeqNo) (xs : List Lane) (x : Lane) : ∀ s : State,
    (State.revokeEach which xs s).lane x = s.lane x ∨
      (State.revokeEach which xs s).lane x = { s.lane x with state := .idle } := by
  induction xs with
  | nil => exact fun s => .inl rfl
  | cons y xs ih =>
    intro s
    unfold State.revokeEach
    cases which s y with
    | none => exact ih s
    | some q =>
      have later := ih (s.revoke y q)
      rw [State.revoke_lane] at later
      by_cases same : x = y
      · subst same
        exact .inr (by simpa using later)
      · simpa [same] using later

/-- A lane that names a claim after a revocation named it before. -/
theorem State.claimed_of_revoke {s : State} {x y : Lane} {q q' : SeqNo}
    (named : ((s.revoke x q).lane y).state.claimedOrOrphaned? = some q') :
    (s.lane y).state.claimedOrOrphaned? = some q' := by
  rw [State.revoke_lane] at named
  by_cases same : y = x
  · simp [same, LaneState.claimedOrOrphaned?] at named
  · simpa [same] using named

theorem LaneState.claimedOrOrphaned?_eq_some (l : LaneState) (q : SeqNo) :
    l.claimedOrOrphaned? = some q ↔ l = .claimed q ∨ l = .orphaned q := by
  cases l <;> simp [LaneState.claimedOrOrphaned?]

/-- The claims that a forced drop revokes. -/
theorem State.revokedOn_eq_some (s : State) (x : Lane) (q q' : SeqNo) :
    State.revokedOn q s x = some q' ↔ q = q' ∧ (s.lane x).state.claimedOrOrphaned? = some q := by
  rw [State.revokedOn, LaneState.claimedOrOrphaned?_eq_some, ← State.claimOn_iff]
  cases s.claimOn (some q) x <;> simp

theorem State.moves_judgeHoldDrop (p : Port) (s : State) (r : Request) :
    s.moves spaced (State.judgeHoldDrop p s r).state := by
  have drop (force : Bool) : s.moves spaced (s.holdDrop p force).state := by
    refine State.moves_judge fun passes => ?_
    simp only [List.forall_mem_cons] at passes
    obtain ⟨-, -, up, -⟩ := passes
    unfold State.acceptHoldDrop
    split
    next => exact s.moves_refl
    next q t droppable =>
      have named_hold : s.hold.named? = some q := by
        cases h : s.hold <;> simp_all [HoldState.droppable?, HoldState.named?]
      have lanes_up (x : Lane) : s.tinesDownOn s.hold.named? x = false := by
        simpa using List.any_eq_false.1 up x (Lane.mem_all x)
      have opens (u : State) (hold : u.hold = s.hold)
          (raised : ∀ x, u.blocks.lane x = .down q 0 → s.blocks.lane x = .down q 0) :
          u.moves spaced { u with hold := .opening q t } := by
        refine State.moves_of_move (.opens u.blocks q (.inr ⟨by simp [State.blocks, hold, named_hold], fun x down => ?_⟩)) rfl
        obtain ⟨ms, down'⟩ := (LaneState.untimed_eq_down _ _).1 (raised x down)
        have contrary := lanes_up x
        simp [State.tinesDownOn, down', named_hold] at contrary
      show s.moves spaced (s.dropHold q t force)
      unfold State.dropHold
      dsimp only
      split
      next =>
        refine State.moves_trans (t := State.revokeEach (State.revokedOn q) Lane.all s)
          (State.moves_revokeEach (fun u x q' named => ?_) (fun u x y c q' _ named => ?_) _ fun x q' named orphaned => ?_)
          (opens _ (by simp) fun x down => ?_)
        · obtain ⟨rfl, claimed⟩ := (State.revokedOn_eq_some u x q q').1 named
          exact (LaneState.claimedOrOrphaned?_eq_some _ _).1 claimed
        · obtain ⟨rfl, claimed⟩ := (State.revokedOn_eq_some _ y q q').1 named
          exact (State.revokedOn_eq_some u y q q).2 ⟨rfl, State.claimed_of_revoke claimed⟩
        · obtain ⟨rfl, -⟩ := (State.revokedOn_eq_some s x q q').1 named
          simpa [State.tinesDownOn, orphaned, named_hold] using lanes_up x
        · rcases State.revokeEach_lane (State.revokedOn q) Lane.all x s with same | idle
          · simpa [State.blocks, same] using down
          · simp [State.blocks, idle, LaneState.untimed] at down
      next => exact opens s rfl fun _ down => down
  unfold State.judgeHoldDrop
  split
  · split
    · exact drop false
    · split
      · exact drop true
      · exact s.moves_refl
  · exact s.moves_refl

/-! ### Requests of the claim protocol -/

theorem State.moves_judgeOnLane {p : Port} {s : State} {onLane : Lane → Reply}
    (does : ∀ x, s.moves spaced (onLane x).state) : s.moves spaced (s.judgeOnLane p onLane).state := by
  unfold State.judgeOnLane
  split
  · exact s.moves_refl
  · exact does _

theorem State.moves_judgeClaim (p : Port) (s : State) (r : Request) : s.moves spaced (State.judgeClaim p s r).state := by
  unfold State.judgeClaim
  split
  next hi lo mask _ =>
    split
    next =>
      refine State.moves_judgeOnLane fun x => State.moves_judge fun passes => ?_
      simp only [List.forall_mem_cons] at passes
      obtain ⟨-, -, idle, -, -, halted, -⟩ := passes
      split
      next => exact s.moves_refl
      next e found =>
        obtain ⟨mem, seq⟩ := State.mem_of_entry? found
        have idle' : s.blocks.lane x = .idle := by simpa [State.blocks, LaneState.isIdle] using idle
        refine State.moves_of_move (.claims s.blocks x e mem idle' halted) ?_
        rw [seq]
        exact State.blocks_setLane _ _ _
    next => exact s.moves_refl
  next => exact s.moves_refl

theorem State.moves_judgeFinish (p : Port) (s : State) (r : Request) :
    s.moves spaced (State.judgeFinish p s r).state := by
  unfold State.judgeFinish
  split
  · refine State.moves_judgeOnLane fun x => ?_
    unfold State.finish
    split
    next q claimed =>
      unfold State.finishClaim
      split
      · exact s.moves_refl
      · split
        · exact s.moves_refl
        · exact State.moves_endClaim (by simp) (.inl claimed)
    all_goals exact s.moves_refl
  · exact s.moves_refl

theorem State.moves_judgeWaive (p : Port) (s : State) (r : Request) : s.moves spaced (State.judgeWaive p s r).state := by
  unfold State.judgeWaive
  split
  · refine State.moves_judgeOnLane fun x => ?_
    unfold State.waive
    split
    · exact s.moves_refl
    · unfold State.waiveEntry
      split
      next c claimed =>
        split
        next same => exact State.moves_endClaim (by simp) (.inl (same ▸ claimed))
        next => exact s.moves_refl
      next idle =>
        split
        · exact State.moves_of_move (.waives s.blocks x _ (by simpa [State.blocks] using idle)) (s.blocks_setStatus _ x _)
        · exact s.moves_refl
      all_goals exact s.moves_refl
  · exact s.moves_refl

theorem State.moves_judgeAdopt (p : Port) (s : State) (r : Request) : s.moves spaced (State.judgeAdopt p s r).state := by
  unfold State.judgeAdopt
  split
  · refine State.moves_judgeOnLane fun x => ?_
    unfold State.adopt
    split
    next q orphaned =>
      split
      next => exact s.moves_refl
      next up =>
        refine State.moves_of_move
          (.relanes s.blocks x (.claimed q) (.inl ⟨q, by simpa [State.blocks] using orphaned, rfl, ?_⟩)) (s.blocks_setLane x _)
        simpa [State.blocks] using up
    all_goals exact s.moves_refl
  · exact s.moves_refl

theorem State.moves_judgeClearLane (p : Port) (s : State) (r : Request) :
    s.moves spaced (State.judgeClearLane p s r).state := by
  have clear (x : Lane) : s.moves spaced (s.clearLane p x).state := by
    refine State.moves_judge fun passes => ?_
    simp only [List.forall_mem_cons] at passes
    obtain ⟨-, clearable, level, -⟩ := passes
    have up : (s.lane x).tdnActive = false := by
      simp only [Bool.not_eq_false'] at clearable
      simpa [clearable] using level
    show s.moves spaced (s.clearLaneState x)
    unfold State.clearLaneState
    split
    next fault =>
      refine State.moves_of_move (.relanes s.blocks x .idle (.inr (.inr ⟨?_, rfl, up⟩))) (s.blocks_setLane x _)
      simpa [State.blocks] using fault
    next q orphaned => exact State.moves_endClaim (by simp) (.inr ⟨orphaned, up⟩)
    next => exact s.moves_refl
  unfold State.judgeClearLane
  split
  · split
    · exact s.moves_refl
    · exact clear _
  · exact s.moves_refl

/-! ### Requests on motion and on the freeze state -/

theorem State.moves_judgeMove (p : Port) (s : State) (r : Request) : s.moves spaced (State.judgeMove p s r).state := by
  unfold State.judgeMove
  split
  · refine State.moves_judge fun passes => ?_
    simp only [List.forall_mem_cons] at passes
    obtain ⟨-, -, thawed, free, faulted, down, claimed, -⟩ := passes
    refine State.moves_of_move (.grants s.blocks ?_ ?_ fun x fitted => ?_) rfl
    · show s.freeze.state = .run
      cases h : s.freeze.state <;> simp_all [State.frozen]
    · simpa [State.blocks] using free
    · have passed (f : LaneController → Bool) (none : s.anyFitted f = false) : f (s.lane x) = false := by
        have := List.any_eq_false.1 none x (Lane.mem_all x)
        simpa [show s.isFitted x = true from fitted] using this
      have faulted' := passed _ faulted
      have down' := passed _ down
      have claimed' := passed _ claimed
      cases h : (s.lane x).state <;>
        simp_all [State.blocks, LaneState.untimed, LaneState.isFault, LaneState.isDown, LaneState.claimedOrOrphaned?]
  · exact s.moves_refl

theorem State.moves_judgeStop (p : Port) (s : State) (r : Request) : s.moves spaced (State.judgeStop p s r).state := by
  unfold State.judgeStop
  split
  · refine State.moves_judge fun _ => ?_
    show s.moves spaced s.stop
    unfold State.stop
    split
    · exact s.moves_haltAtAxis
    · exact s.moves_refl
  · exact s.moves_refl

theorem State.moves_judgeFreeze (p : Port) (s : State) (r : Request) :
    s.moves spaced (State.judgeFreeze p s r).state := by
  unfold State.judgeFreeze
  split
  · exact State.moves_judge fun _ => s.moves_handCause _ _ _
  · exact s.moves_refl

theorem State.moves_judgeThaw (p : Port) (s : State) (r : Request) : s.moves spaced (State.judgeThaw p s r).state := by
  unfold State.judgeThaw
  split
  · refine State.moves_judge fun passes => ?_
    simp only [List.forall_mem_cons] at passes
    obtain ⟨-, -, frozen, unblocked, -⟩ := passes
    have up (x : Lane) (fitted : s.isFitted x = true) : (s.lane x).tdnActive = false := by
      simp only [State.thawBlocked, Bool.or_eq_false_iff] at unblocked
      obtain ⟨⟨⟨-, level⟩, -⟩, -⟩ := unblocked
      simpa [fitted] using List.any_eq_false.1 level x (Lane.mem_all x)
    have claimed (u : State) (x : Lane) (q : SeqNo) (named : u.revokedByThaw x = some q) :
        u.isFitted x = true ∧ (u.lane x).state.claimedOrOrphaned? = some q := by
      simpa [State.revokedByThaw] using named
    refine State.moves_trans (t := State.revokeEach State.revokedByThaw Lane.all s)
      (State.moves_revokeEach (fun u x q named => ?_) (fun u x y q q' _ named => ?_) _ fun x q named _ => ?_)
      (State.moves_of_move (.thaws _ ?_) rfl)
    · exact (LaneState.claimedOrOrphaned?_eq_some _ _).1 (claimed u x q named).2
    · obtain ⟨fitted, named⟩ := claimed _ y q' named
      have fitted' : u.isFitted y = true := by
        simpa [State.isFitted, State.live, State.revoke, State.endClaim] using fitted
      simpa [State.revokedByThaw, fitted'] using State.claimed_of_revoke named
    · exact up x (claimed s x q named).1
    · have frozen' : s.freeze.state = .frozen := by
        cases h : s.freeze.state <;> simp_all [State.frozen]
      simpa [State.blocks] using frozen'
  · exact s.moves_refl

/-! ### Requests on the settings -/

/-- Of the settings only the lanes fitted themselves change which lanes are fitted (R70, R155). -/
theorem Settings.write_lanesFitted {k : Setting} (other : k ≠ .lanesFitted) (s : Settings) (v : Int) :
    (s.write k v).lanesFitted = s.lanesFitted := by
  have put (u : Settings) (w : Int) : (u.put k w).lanesFitted = u.lanesFitted := by
    cases k <;> first | rfl | exact absurd rfl other
  have bound (u : Settings) : (u.boundOther k).lanesFitted = u.lanesFitted := by cases k <;> rfl
  rw [Settings.write, bound, put]

theorem State.moves_judgeSet (p : Port) (s : State) (r : Request) : s.moves spaced (State.judgeSet p s r).state := by
  unfold State.judgeSet
  split
  · split
    · exact s.moves_refl
    next k _ =>
      refine State.moves_judge fun passes => ?_
      simp only [State.setChecks, List.forall_mem_cons] at passes
      obtain ⟨-, -, quiet, -⟩ := passes
      refine State.moves_writeSettings ?_
      by_cases fitting : k = .lanesFitted
      · subst fitting
        refine .inr ?_
        simp only [Setting.isProtected, Bool.true_and, Bool.not_eq_false', State.quiescent, Bool.and_eq_true] at quiet
        exact quiet.2
      · exact .inl (Settings.write_lanesFitted fitting _ _)
  · exact s.moves_refl

theorem State.moves_judgeReload (p : Port) (s : State) (r : Request) :
    s.moves spaced (State.judgeReload p s r).state := by
  unfold State.judgeReload
  split
  · refine State.moves_judge fun passes => ?_
    simp only [State.protectedChecks, List.cons_append, List.forall_mem_cons] at passes
    obtain ⟨-, -, quiet, -⟩ := passes
    simp only [Bool.not_eq_false', State.quiescent, Bool.and_eq_true] at quiet
    exact State.moves_congr (State.moves_writeSettings (.inr quiet.2)) rfl (State.blocks_raise? _ _)
  · exact s.moves_refl

end

end Sys2Proof.Machine
end

section
/-! PROOFS. Every step is a sequence of moves, and what follows for the list, the claims, the hold, the grant, the squeezes
and the counters. -/

namespace Sys2Proof.Machine

section
variable {spaced : Prop}

/-! ### Commands -/

theorem State.blocks_remeasure (s : State) (x : Lane) : (s.remeasure x).blocks = s.blocks := by
  rw [State.remeasure, State.blocks_updateLane]
  have lane : Lane.update s.blocks.lane x (s.lane x).state.untimed = s.blocks.lane := Lane.update_eq_self x _
  have tines : Lane.update s.blocks.tines x (s.lane x).tdnActive = s.blocks.tines := Lane.update_eq_self x _
  simp only [lane, tines]

/-- A millisecond moves nothing: the blocks hold no timer. -/
theorem State.blocks_idle (s : State) : s.idle.blocks = s.blocks := by
  have lane (l : LaneController) : l.advance.state.untimed = l.state.untimed := by
    cases h : l.state <;> simp [LaneController.advance, LaneState.advance, LaneState.untimed, h]
  have hold : s.hold.advance.untimed = s.hold.untimed := by
    cases h : s.hold <;> rfl
  unfold State.idle
  split
  · rfl
  · simp only [State.blocks, State.queueDue, State.advance, State.lane, PerLane.get_map, lane, hold]
    rfl

theorem State.blocks_expireStatus (s : State) (p : Port) : (s.expireStatus p).blocks = s.blocks := by
  unfold State.expireStatus
  split <;> rfl

theorem State.blocks_completeSave (s : State) : s.completeSave.blocks = s.blocks := by
  unfold State.completeSave
  split <;> rfl

theorem State.blocks_noteRestartSent (s : State) (f : TxFrame) : (s.noteRestartSent f).blocks = s.blocks := by
  unfold State.noteRestartSent
  split <;> rfl

/-- A restart and a full reset leave the reset values, whatever was before. -/
theorem State.moves_reset {s u : State} {ports : PerPort PortState} {cause : FreezeCause} {source : FreezeSource}
    {e : Option Event} : s.moves spaced ((u.resetBlocks ports cause source).raise? e).started := by
  refine State.moves_congr (State.moves_resetBlocks s u ports cause source) rfl ?_
  rw [State.blocks_started (by simp [State.resetBlocks]), State.blocks_raise?]

/-- The command that takes a request moves what the judgement moves. -/
theorem moves_of_takeRequest {s t : State} {p : Port} {code : Byte} {judge : State → Request → Reply}
    (ran : (.next (s.takeRequest p code judge) : Host.Outcome State Fault Refusal) = .next t)
    (does : ∀ r, (s.popQueue p).moves spaced (judge (s.popQueue p) r).state) : s.moves spaced t :=
  Host.Outcome.next.inj ran ▸ State.moves_takeRequest does

/-- A command that acts when its condition holds, and otherwise changes nothing. -/
theorem moves_of_guarded {s t u : State} {c : Bool}
    (ran : (.next (if c then u else s) : Host.Outcome State Fault Refusal) = .next t)
    (does : c = true → s.moves spaced u) : s.moves spaced t := by
  rw [← Host.Outcome.next.inj ran]
  split
  next acts => exact does acts
  next => exact s.moves_refl

theorem moves_of_timerEnd {s t u : State} {c : Instr}
    (ran : (.next (if !s.inReset && s.reaches c then u.settle else s) : Host.Outcome State Fault Refusal) = .next t)
    (does : s.reaches c = true → s.moves spaced u) : s.moves spaced t :=
  moves_of_guarded ran fun acts => State.moves_congr (does (Bool.and_eq_true_iff.1 acts).2) rfl rfl

theorem exec_moves {c : Instr} {s t : State} (ran : exec c s = .next t) :
    s.moves (1 ≤ s.live.minimumSpacing) t := by
  cases c with
  | pulse odb =>
    rw [← Host.Outcome.next.inj ran]
    split
    · exact State.moves_of_eq rfl
    · exact State.moves_congr (State.moves_takePulse { s with pins := { s.pins with odb := odb } }) rfl rfl
  | activeEdge =>
    rw [← Host.Outcome.next.inj ran]
    exact State.moves_trans (s.moves_sdetEdge true) (State.moves_takeChange _)
  | inactiveEdge =>
    rw [← Host.Outcome.next.inj ran]
    exact State.moves_trans (s.moves_sdetEdge false) (State.moves_takeChange _)
  | tdnLineChange x level =>
    simp only [exec, execTdnLineChange] at ran
    split at ran
    · exact Host.Outcome.next.inj ran ▸ s.moves_refl
    · rw [← Host.Outcome.next.inj ran]
      split
      · exact State.moves_of_eq rfl
      · exact State.moves_of_eq (State.blocks_remeasure { s with pins := { s.pins with tdn := s.pins.tdn.set x level } } x)
  | assertion x =>
    refine moves_of_timerEnd ran fun reached => State.moves_takeDebounced (toActive := true) ?_
    exact (Bool.and_eq_true_iff.1 reached).1
  | release x =>
    refine moves_of_timerEnd ran fun reached => State.moves_takeDebounced (toActive := false) ?_
    exact (Bool.and_eq_true_iff.1 reached).1
  | downTimerExpiry x => exact moves_of_timerEnd ran fun _ => s.moves_expireDown x
  | liftTimerExpiry => exact moves_of_timerEnd ran fun _ => s.moves_expireLift
  | overdueTimerExpiry => exact moves_of_timerEnd ran fun _ => s.moves_expireOverdue
  | presenceTimerExpiry p => exact moves_of_timerEnd ran fun _ => s.moves_expirePresence p
  | statusTimerExpiry p => exact moves_of_guarded ran fun _ => State.moves_of_eq (s.blocks_expireStatus p)
  | saveWriteComplete => exact moves_of_guarded ran fun _ => State.moves_of_eq s.blocks_completeSave
  | validFrame p body =>
    rw [← Host.Outcome.next.inj ran]
    split
    · exact s.moves_refl
    · exact State.moves_of_eq (s.blocks_receiveBytes p _)
  | discardedFrame p bytes =>
    rw [← Host.Outcome.next.inj ran]
    split
    · exact s.moves_refl
    · exact State.moves_of_eq (s.blocks_receiveBytes p _)
  | frameSent p =>
    rw [← Host.Outcome.next.inj ran]
    split
    next f _ _ => exact State.moves_of_eq (s.blocks_noteRestartSent f)
    next => exact s.moves_refl
  | unknownCode p =>
    rw [← Host.Outcome.next.inj ran]
    split
    · exact s.moves_refl
    next r _ => exact State.moves_of_eq (State.blocks_respond p r (Reply.refuse (s.popQueue p) .malformed))
  | frzinAssertion =>
    simp only [exec, execFrzinAssertion] at ran
    split at ran
    · exact Host.Outcome.next.inj ran ▸ s.moves_refl
    · rw [← Host.Outcome.next.inj ran]
      split
      · exact State.moves_of_eq rfl
      · exact State.moves_congr
          (State.moves_handCause { s with pins := { s.pins with frzin := .low } } .line .frzin none) rfl rfl
  | frzinRelease => exact Host.Outcome.next.inj ran ▸ State.moves_of_eq rfl
  | rstnAssertion =>
    rw [← Host.Outcome.next.inj ran]
    split
    · exact s.moves_refl
    · refine State.moves_of_eq ?_
      unfold State.holdReset State.stopWrite
      split <;> rfl
  | fullReset =>
    rw [← Host.Outcome.next.inj ran]
    refine State.moves_congr (t := s.fullReset) ?_ rfl s.fullReset.blocks_settle
    exact State.moves_reset
  | restartTakesEffect =>
    rw [← Host.Outcome.next.inj ran]
    split
    · exact s.moves_refl
    next v _ =>
      refine State.moves_congr (t := s.takeRestart v.port) ?_ rfl (s.takeRestart v.port).blocks_settle
      exact State.moves_reset (e := none)
  | axisPreset p =>
    rw [← Host.Outcome.next.inj ran]
    exact State.moves_trans (State.moves_takeRequest (p := p) (code := 0x37) (judge := State.judgeAxisPreset p)
      fun r => State.moves_judgeAxisPreset p _ r) (State.moves_offerMade _)
  | present p => exact moves_of_takeRequest ran fun r => State.moves_judgePresent p _ r
  | readState p => exact moves_of_takeRequest ran fun r => State.moves_judgeReadState _ r
  | readEvents p => exact moves_of_takeRequest ran fun r => State.moves_judgeReadEvents p _ r
  | eventMask p => exact moves_of_takeRequest ran fun r => State.moves_judgeEventMask p _ r
  | statusInterval p => exact moves_of_takeRequest ran fun r => State.moves_judgeStatusInterval p _ r
  | readEntry p => exact moves_of_takeRequest ran fun r => State.moves_judgeReadEntry p _ r
  | readRegister p => exact moves_of_takeRequest ran fun r => State.moves_judgeReadRegister p _ r
  | readPassages p => exact moves_of_takeRequest ran fun r => State.moves_judgeReadPassages p _ r
  | readCounters p => exact moves_of_takeRequest ran fun r => State.moves_judgeReadCounters p _ r
  | readSetting p => exact moves_of_takeRequest ran fun r => State.moves_judgeReadSetting p _ r
  | readFault p => exact moves_of_takeRequest ran fun r => State.moves_judgeReadFault p _ r
  | freeze p => exact moves_of_takeRequest ran fun r => State.moves_judgeFreeze p _ r
  | key p => exact moves_of_takeRequest ran fun r => State.moves_judgeKey p _ r
  | annotate p => exact moves_of_takeRequest ran fun r => State.moves_judgeAnnotate p _ r
  | place p => exact moves_of_takeRequest ran fun r => State.moves_judgePlace p _ r id
  | strike p => exact moves_of_takeRequest ran fun r => State.moves_judgeStrike p _ r
  | takePassages p => exact moves_of_takeRequest ran fun r => State.moves_judgeTakePassages p _ r
  | holdTake p => exact moves_of_takeRequest ran fun r => State.moves_judgeHoldTake p _ r
  | holdSet p => exact moves_of_takeRequest ran fun r => State.moves_judgeHoldSet p _ r
  | holdDrop p => exact moves_of_takeRequest ran fun r => State.moves_judgeHoldDrop p _ r
  | holdClear p => exact moves_of_takeRequest ran fun r => State.moves_judgeHoldClear p _ r
  | claim p => exact moves_of_takeRequest ran fun r => State.moves_judgeClaim p _ r
  | finish p => exact moves_of_takeRequest ran fun r => State.moves_judgeFinish p _ r
  | waive p => exact moves_of_takeRequest ran fun r => State.moves_judgeWaive p _ r
  | adopt p => exact moves_of_takeRequest ran fun r => State.moves_judgeAdopt p _ r
  | clearLane p => exact moves_of_takeRequest ran fun r => State.moves_judgeClearLane p _ r
  | move p => exact moves_of_takeRequest ran fun r => State.moves_judgeMove p _ r
  | stop p => exact moves_of_takeRequest ran fun r => State.moves_judgeStop p _ r
  | set p => exact moves_of_takeRequest ran fun r => State.moves_judgeSet p _ r
  | setRoles p => exact moves_of_takeRequest ran fun r => State.moves_judgeSetRoles p _ r
  | thaw p => exact moves_of_takeRequest ran fun r => State.moves_judgeThaw p _ r
  | save p => exact moves_of_takeRequest ran fun r => State.moves_judgeSave p _ r
  | reload p => exact moves_of_takeRequest ran fun r => State.moves_judgeReload p _ r
  | restart p => exact moves_of_takeRequest ran fun r => State.moves_judgeRestart p _ r
  | flush p => exact moves_of_takeRequest ran fun r => State.moves_judgeFlush p _ r

/-- Every step is a sequence of moves. -/
theorem step_moves {s t : State} (ran : step s = .next t) : s.moves (1 ≤ s.live.minimumSpacing) t := by
  unfold step at ran
  split at ran
  · exact Host.Outcome.next.inj ran ▸ State.moves_of_eq s.blocks_idle
  next c rest _ =>
    have path := exec_moves ran
    exact State.moves_congr path rfl rfl

/-- What every move keeps, a step keeps. -/
theorem step_keeps {P : State → Prop} {Q : Blocks → Prop} (reads : ∀ s : State, P s ↔ Q s.blocks) {s t : State}
    (keeps : ∀ b c, Blocks.Move (1 ≤ s.live.minimumSpacing) b c → Q b → Q c) (before : P s) (ran : step s = .next t) :
    P t :=
  (reads t).2 (State.moves_keeps keeps (step_moves ran) ((reads s).1 before))

end

/-! ### The invariants -/

/-- Settles O52: every move keeps the invariant of R69. -/
theorem claimsMatchTheList : Obligations.ClaimsMatchTheList := fun _ _ before ran =>
  step_keeps State.claimsHold_iff (fun _ _ move => move.keeps_claimsHold) before ran

/-- Settles O53: every move keeps the invariant of R55, R94 and R95. -/
theorem holdNamesAnEntry : Obligations.HoldNamesAnEntry := fun _ _ before ran =>
  step_keeps State.holdStands_iff (fun _ _ move => move.keeps_holdStands) before ran

/-- Settles O54: every move keeps the invariant of R112. -/
theorem grantsAreSafe : Obligations.GrantsAreSafe := fun _ _ before ran =>
  step_keeps State.grantSafe_iff (fun _ _ move => move.keeps_grantSafe) before ran

/-- Settles O55: every move keeps the invariant of R75. -/
theorem squeezesStayBounded : Obligations.SqueezesStayBounded := fun _ _ before ran =>
  step_keeps State.squeezesHold_iff (fun _ _ move => move.keeps_squeezesHold) before ran

/-- Settles O56: every move keeps the order of R33, since the legal minimum spacing holds a placed entry apart. -/
theorem listStaysOrdered : Obligations.ListStaysOrdered := by
  intro s t legal before ran
  have stands : 1 ≤ s.live.minimumSpacing := by
    obtain ⟨least, -, -⟩ : Domain.holds (.range _ _ _) s.live.minimumSpacing := legal.1 .minimumSpacing
    omega
  exact step_keeps State.listOrdered_iff (fun _ _ move => move.keeps_listOrdered stands) before ran

/-- The first half of O58: every move keeps the counts of R57 and R66. -/
theorem step_keeps_countsAgree {s t : State} (before : s.countsAgree) (ran : step s = .next t) : t.countsAgree :=
  step_keeps State.countsAgree_iff (fun _ _ move => move.keeps_countsAgree) before ran

end Sys2Proof.Machine
end

section
/-! PROOFS. The output lines follow their conditions after every step: commands end with `settle`, or change nothing that
the conditions read. -/

namespace Sys2Proof.Machine

/-! ### The conditions -/

theorem Flags.within_eq_true (a b w : Int) : Flags.within a b w = true ↔ a - b ≤ w ∧ b - a ≤ w := by
  simp [Flags.within]

theorem State.rolePresent_eq_true (s : State) (r : Role) :
    s.rolePresent r = true ↔ ∃ p, s.roleOf p = r ∧ s.portPresent p = true := by
  simp [State.rolePresent]

theorem State.inReset_eq_true (s : State) : s.inReset = true ↔ s.pins.rstn = .low := by simp [State.inReset]

theorem State.inReset_eq_false (s : State) : s.inReset = false ↔ s.pins.rstn = .high := by
  cases h : s.pins.rstn <;> simp [State.inReset, h]

/-- The permit and a released RSTN are the conditions of R72. -/
theorem State.dpmLevel_eq_true (s : State) (x : Lane) : s.dpmLevel x = true ↔ s.permitDue x := by
  have stands :
      ((match (s.lane x).state.permitSeq? with
        | none => false
        | some q => s.hold.heldOn q && (match s.entry? q with | none => false | some e => s.aligned x e)) = true) ↔
      ∃ q e, (s.lane x).state.permitSeq? = some q ∧ s.hold.heldOn q = true ∧ s.entry? q = some e ∧
        e.position - (s.axis.axis + s.live.laneOffset.get x) ≤ s.live.claimWindow ∧
        s.axis.axis + s.live.laneOffset.get x - e.position ≤ s.live.claimWindow := by
    cases (s.lane x).state.permitSeq? with
    | none => simp
    | some q => cases h : s.entry? q <;> simp [h, State.aligned, Flags.within_eq_true]
  simp only [State.dpmLevel, Bool.and_eq_true, Bool.not_eq_true', State.inReset_eq_false, State.permit,
    State.rolePresent_eq_true, decide_eq_true_eq, and_assoc, State.permitDue]
  exact and_congr_right fun _ => and_congr_right fun _ => and_congr stands .rfl

theorem State.movokLevel_eq_true (s : State) :
    s.movokLevel = true ↔ s.pins.rstn = .high ∧ s.freeze.state = .run ∧ s.motion.state.isGranted = true := by
  have run : s.frozen = false ↔ s.freeze.state = .run := by cases h : s.freeze.state <;> simp [State.frozen, h]
  simp [State.movokLevel, State.inReset_eq_false, run, and_assoc]

theorem State.frzoutLevel_eq_true (s : State) : s.frzoutLevel = true ↔ s.pins.rstn = .low ∨ s.freeze.state = .frozen := by
  simp [State.frzoutLevel, State.inReset_eq_true, State.frozen]

/-- The output lines follow exactly where they have the levels that `settle` gives them. -/
theorem State.linesFollow_iff (s : State) : s.linesFollow ↔
    (∀ x, s.pins.dpm.get x = s.dpmLevel x) ∧ s.pins.movok = s.movokLevel ∧ s.pins.frzout = s.frzoutLevel := by
  rw [State.linesFollow, ← State.movokLevel_eq_true, ← State.frzoutLevel_eq_true, ← Bool.eq_iff_iff, ← Bool.eq_iff_iff]
  refine and_congr (forall_congr' fun x => ?_) .rfl
  rw [← State.dpmLevel_eq_true, ← Bool.eq_iff_iff]

theorem State.linesFollow_settle (s : State) : s.settle.linesFollow :=
  (State.linesFollow_iff _).2 ⟨fun x => PerLane.get_ofFn s.dpmLevel x, rfl, rfl⟩

/-- Where neither the lines nor what their conditions read changes, they keep following. -/
theorem State.linesFollow_congr {s t : State} (pins : t.pins = s.pins) (freeze : t.freeze.state = s.freeze.state)
    (lanes : ∀ x, (t.lane x).state.permitSeq? = (s.lane x).state.permitSeq?) (hold : t.hold.heldOn = s.hold.heldOn)
    (list : t.list = s.list) (axis : t.axis = s.axis) (live : t.live = s.live)
    (present : ∀ p, t.portPresent p = s.portPresent p) (motion : t.motion = s.motion) (follow : s.linesFollow) :
    t.linesFollow := by
  obtain ⟨dpm, movok, frzout⟩ := s.linesFollow_iff.1 follow
  have reset : t.inReset = s.inReset := by rw [State.inReset, pins, State.inReset]
  have frozen : t.frozen = s.frozen := by rw [State.frozen, freeze, State.frozen]
  have roleOf (p : Port) : t.roleOf p = s.roleOf p := by rw [State.roleOf, State.portRole, live, State.roleOf, State.portRole]
  have roles (r : Role) : t.rolePresent r = s.rolePresent r := by
    simp only [State.rolePresent, roleOf, present]
  have permit (x : Lane) : t.permit x = s.permit x := by
    simp only [State.permit, freeze, lanes, hold, roles, State.entry?, list, State.aligned, axis, live]
  refine t.linesFollow_iff.2 ⟨fun x => ?_, ?_, ?_⟩
  · rw [pins, dpm, State.dpmLevel, State.dpmLevel, reset, permit]
  · rw [pins, movok, State.movokLevel, State.movokLevel, reset, frozen, motion]
  · rw [pins, frzout, State.frzoutLevel, State.frzoutLevel, reset, frozen]

/-! ### Commands that do not settle -/

/-- A command that settles when its condition holds, and otherwise changes nothing that the lines read. -/
theorem State.linesFollow_ite {s u : State} {c : Bool} (follow : s.linesFollow) :
    (if c then u.settle else s).linesFollow := by
  split
  · exact u.linesFollow_settle
  · exact follow

theorem State.linesFollow_unless {s u : State} {c : Bool} (follow : s.linesFollow) :
    (if c then s else u.settle).linesFollow := by
  split
  · exact follow
  · exact u.linesFollow_settle

/-- A millisecond changes timers alone. -/
theorem State.linesFollow_idle {s : State} (follow : s.linesFollow) : s.idle.linesFollow := by
  unfold State.idle
  split
  · exact follow
  · refine State.linesFollow_congr (s := s) rfl rfl (fun x => ?_) ?_ rfl rfl rfl (fun p => ?_) rfl follow
    · show ((s.lanes.map LaneController.advance).get x).state.permitSeq? = (s.lanes.get x).state.permitSeq?
      rw [PerLane.get_map]
      cases h : (s.lanes.get x).state <;> simp [LaneController.advance, LaneState.advance, LaneState.permitSeq?, h]
    · show s.hold.advance.heldOn = s.hold.heldOn
      cases s.hold <;> rfl
    · show ((s.ports.map PortState.advance).get p).presence.isPresent = (s.ports.get p).presence.isPresent
      rw [PerPort.get_map]
      cases h : (s.ports.get p).presence <;> simp [PortState.advance, Presence.advance, Presence.isPresent, h]

/-- A change of one port that leaves its presence. -/
theorem State.linesFollow_updatePort {s : State} {p : Port} {f : PortState → PortState}
    (present : ∀ v : PortState, (f v).presence = v.presence) (follow : s.linesFollow) : (s.updatePort p f).linesFollow := by
  refine State.linesFollow_congr (s := s) rfl rfl (fun _ => rfl) rfl rfl rfl rfl (fun i => ?_) rfl follow
  show ((s.ports.modify p f).get i).presence.isPresent = (s.ports.get i).presence.isPresent
  rw [PerPort.get_modify]
  split <;> simp [*]

theorem State.linesFollow_sendResponse {s : State} {p : Port} {f : TxFrame} (follow : s.linesFollow) :
    (s.sendResponse p f).linesFollow :=
  State.linesFollow_updatePort (fun v => by cases v with | mk _ _ _ _ _ _ sending _ _ => cases sending <;> rfl) follow

theorem State.linesFollow_sendStatus {s : State} {p : Port} {f : TxFrame} (follow : s.linesFollow) :
    (s.sendStatus p f).linesFollow :=
  State.linesFollow_updatePort (fun v => by cases v with | mk _ _ _ _ _ _ sending _ _ => cases sending <;> rfl) follow

theorem State.linesFollow_expireStatus {s : State} {p : Port} (follow : s.linesFollow) :
    (s.expireStatus p).linesFollow := by
  unfold State.expireStatus
  split
  · exact follow
  · exact State.linesFollow_sendStatus (s := s.updateEvents p fun v => { v.delivered with timer := some 0 }) follow

theorem State.linesFollow_completeSave {s : State} (follow : s.linesFollow) : s.completeSave.linesFollow := by
  unfold State.completeSave
  split
  · exact follow
  next v _ =>
    exact State.linesFollow_sendResponse
      (s := { s with store := { s.store with image := .ofSettings v.snapshot, save := none } }) follow

/-- A frame that begins leaves the presence, the queue and the key window of its port (R136). -/
theorem PortState.sendNext_keeps (v : PortState) (first : Bool) :
    (v.sendNext first).presence = v.presence ∧ (v.sendNext first).queue = v.queue ∧
      (v.sendNext first).keyCount = v.keyCount := by
  unfold PortState.sendNext
  cases v.response <;> cases v.status
  case some.some => cases first <;> exact ⟨rfl, rfl, rfl⟩
  all_goals exact ⟨rfl, rfl, rfl⟩

theorem State.linesFollow_frameSent {s : State} {p : Port} {f : TxFrame} (follow : s.linesFollow) :
    ((s.noteRestartSent f).nextFrame p).linesFollow := by
  have noted : (s.noteRestartSent f).linesFollow := by
    unfold State.noteRestartSent
    split <;> exact follow
  exact State.linesFollow_updatePort (s := s.noteRestartSent f) (fun v => (v.sendNext_keeps _).1) noted

theorem State.linesFollow_takeRequest {s : State} (p : Port) (code : Byte) (judge : State → Request → Reply)
    (follow : s.linesFollow) : (s.takeRequest p code judge).linesFollow := by
  unfold State.takeRequest
  split
  · exact follow
  · exact State.linesFollow_settle _

theorem State.linesFollow_sdetEdge {s : State} {active : Bool} (follow : s.linesFollow) :
    (s.sdetEdge active).linesFollow := by
  unfold State.sdetEdge
  dsimp only
  split
  · exact follow
  · generalize (if active = true then s.live.sdetPolarity.activeLevel else s.live.sdetPolarity.inactiveLevel) = level
    exact State.linesFollow_unless (s := { s with pins := { s.pins with sdet := level } }) follow

theorem State.linesFollow_takeChange {s : State} (follow : s.linesFollow) : s.takeChange.linesFollow := by
  unfold State.takeChange
  split
  · exact follow
  · exact follow
  · exact State.linesFollow_settle _

theorem State.linesFollow_offerMade {s : State} (follow : s.linesFollow) : s.offerMade.linesFollow := by
  unfold State.offerMade
  split
  · exact follow
  · exact follow
  · exact State.linesFollow_settle _

/-! ### Every step -/

theorem exec_linesFollow {c : Instr} {s t : State} (follow : s.linesFollow) (ran : exec c s = .next t) :
    t.linesFollow := by
  cases c with
  | pulse odb =>
    exact Host.Outcome.next.inj ran ▸ State.linesFollow_unless (s := { s with pins := { s.pins with odb := odb } }) follow
  | activeEdge =>
    exact Host.Outcome.next.inj ran ▸ State.linesFollow_takeChange (State.linesFollow_sdetEdge follow)
  | inactiveEdge =>
    exact Host.Outcome.next.inj ran ▸ State.linesFollow_takeChange (State.linesFollow_sdetEdge follow)
  | tdnLineChange x level =>
    simp only [exec, execTdnLineChange] at ran
    split at ran
    · exact Host.Outcome.next.inj ran ▸ follow
    · exact Host.Outcome.next.inj ran ▸
        State.linesFollow_unless (s := { s with pins := { s.pins with tdn := s.pins.tdn.set x level } }) follow
  | frzinAssertion =>
    simp only [exec, execFrzinAssertion] at ran
    split at ran
    · exact Host.Outcome.next.inj ran ▸ follow
    · exact Host.Outcome.next.inj ran ▸
        State.linesFollow_unless (s := { s with pins := { s.pins with frzin := .low } }) follow
  | frzinRelease => exact Host.Outcome.next.inj ran ▸ follow
  | rstnAssertion => exact Host.Outcome.next.inj ran ▸ State.linesFollow_unless follow
  | fullReset => exact Host.Outcome.next.inj ran ▸ State.linesFollow_settle s.fullReset
  | restartTakesEffect =>
    rw [← Host.Outcome.next.inj ran]
    split
    · exact follow
    next v _ => exact State.linesFollow_settle (s.takeRestart v.port)
  | assertion x => exact Host.Outcome.next.inj ran ▸ State.linesFollow_ite follow
  | release x => exact Host.Outcome.next.inj ran ▸ State.linesFollow_ite follow
  | downTimerExpiry x => exact Host.Outcome.next.inj ran ▸ State.linesFollow_ite follow
  | liftTimerExpiry => exact Host.Outcome.next.inj ran ▸ State.linesFollow_ite follow
  | overdueTimerExpiry => exact Host.Outcome.next.inj ran ▸ State.linesFollow_ite follow
  | presenceTimerExpiry p => exact Host.Outcome.next.inj ran ▸ State.linesFollow_ite follow
  | statusTimerExpiry p =>
    rw [← Host.Outcome.next.inj ran]
    split
    · exact State.linesFollow_expireStatus follow
    · exact follow
  | saveWriteComplete =>
    rw [← Host.Outcome.next.inj ran]
    split
    · exact State.linesFollow_completeSave follow
    · exact follow
  | frameSent p =>
    rw [← Host.Outcome.next.inj ran]
    split
    · exact State.linesFollow_frameSent follow
    · exact follow
  | validFrame p body => exact Host.Outcome.next.inj ran ▸ State.linesFollow_unless follow
  | discardedFrame p bytes => exact Host.Outcome.next.inj ran ▸ State.linesFollow_unless follow
  | unknownCode p =>
    rw [← Host.Outcome.next.inj ran]
    split
    · exact follow
    · exact State.linesFollow_settle _
  | axisPreset p =>
    exact Host.Outcome.next.inj ran ▸ State.linesFollow_offerMade (State.linesFollow_takeRequest _ _ _ follow)
  | present | readState | readEvents | eventMask | statusInterval | readEntry | readRegister | readPassages
  | readCounters | readSetting | readFault | freeze | key | annotate | place | strike | takePassages | holdTake
  | holdSet | holdDrop | holdClear | claim | finish | waive | adopt | clearLane | move | stop | set | setRoles | thaw
  | save | reload | restart | flush =>
    exact Host.Outcome.next.inj ran ▸ State.linesFollow_takeRequest _ _ _ follow

/-- Settles O51: a step settles the lines, or leaves their conditions as they are. -/
theorem outputLinesFollow : Obligations.OutputLinesFollow := by
  intro s t follow ran
  unfold step at ran
  split at ran
  · exact Host.Outcome.next.inj ran ▸ State.linesFollow_idle follow
  next c rest _ => exact exec_linesFollow (s := { s with pending := rest }) follow ran

end Sys2Proof.Machine
end

section
/-! PROOFS. What a write of a setting takes and leaves (R30, R154, R155). -/

namespace Sys2Proof.Machine

/-! ### Domains -/

/-- The ends of a range are values of its step, in their order. -/
def Domain.sound (d : Domain) : Prop :=
  match d with
  | .range lo hi step => 0 < step ∧ lo ≤ hi ∧ lo % step = 0 ∧ hi % step = 0
  | .codes _ => True
  | .offOrRange lo hi step => 0 < step ∧ 0 < lo ∧ lo ≤ hi ∧ lo % step = 0 ∧ hi % step = 0

theorem Setting.domain_sound (k : Setting) : k.domain.sound := by
  cases k <;> simp [Setting.domain, Domain.sound]

theorem Domain.clamp_eq (lo hi v : Int) (ordered : lo ≤ hi) : Domain.clamp lo hi v = max lo (min hi v) := by
  unfold Domain.clamp
  split
  · omega
  · split <;> omega

/-- Rounding down to a step stays above a value of the step. -/
theorem Domain.le_rounded {lo v step : Int} (pos : 0 < step) (even : lo % step = 0) (above : lo ≤ v) :
    lo ≤ v / step * step := by
  calc lo = lo / step * step := (Int.ediv_mul_cancel (Int.dvd_of_emod_eq_zero even)).symm
    _ ≤ v / step * step := Int.mul_le_mul_of_nonneg_right (Int.ediv_le_ediv pos above) (Int.le_of_lt pos)

theorem Domain.rounded_le {v step : Int} (pos : 0 < step) : v / step * step ≤ v :=
  Int.ediv_mul_le v (Int.ne_of_gt pos)

theorem Domain.rounded_of_even {v step : Int} (even : v % step = 0) : v / step * step = v :=
  Int.ediv_mul_cancel (Int.dvd_of_emod_eq_zero even)

/-- The value taken lies in the domain (R155). -/
theorem Domain.legalise_holds {d : Domain} (sound : d.sound) {held : Int} (holds : d.holds held) (v : Int) :
    d.holds (d.legalise held v) := by
  cases d with
  | range lo hi step =>
    obtain ⟨pos, ordered, even, -⟩ := sound
    rw [Domain.legalise, Domain.clamp_eq lo hi v ordered]
    have below := Domain.rounded_le (v := max lo (min hi v)) pos
    exact ⟨Domain.le_rounded pos even (Int.le_max_left _ _), by omega, Int.mul_emod_left _ _⟩
  | codes set =>
    by_cases taken : v ∈ set
    · rw [Domain.legalise, if_pos taken]
      exact taken
    · rw [Domain.legalise, if_neg taken]
      exact holds
  | offOrRange lo hi step =>
    obtain ⟨pos, above, ordered, even, -⟩ := sound
    unfold Domain.legalise
    dsimp only
    rw [Domain.clamp_eq 0 hi v (Int.le_trans (Int.le_of_lt above) ordered)]
    split
    next => exact .inr ⟨Int.le_refl lo, ordered, even⟩
    next outside =>
      by_cases off : max 0 (min hi v) = 0
      · exact .inl (by rw [off]; simp)
      · have below := Domain.rounded_le (v := max 0 (min hi v)) pos
        exact .inr ⟨Domain.le_rounded pos even (by omega), by omega, Int.mul_emod_left _ _⟩

/-- A value of the domain is taken as it is (R155). -/
theorem Domain.legalise_of_holds {d : Domain} (sound : d.sound) {held v : Int} (holds : d.holds v) :
    d.legalise held v = v := by
  cases d with
  | range lo hi step =>
    obtain ⟨low, high, even⟩ := holds
    have inside : max lo (min hi v) = v := by omega
    rw [Domain.legalise, Domain.clamp_eq lo hi v (Int.le_trans low high), inside, Domain.rounded_of_even even]
  | codes set => exact if_pos holds
  | offOrRange lo hi step =>
    obtain ⟨pos, above, ordered, -⟩ := sound
    unfold Domain.legalise
    dsimp only
    rw [Domain.clamp_eq 0 hi v (Int.le_trans (Int.le_of_lt above) ordered)]
    rcases holds with rfl | ⟨low, high, even⟩
    · have off : max 0 (min hi 0) = 0 := by omega
      rw [off, if_neg (by omega), Int.zero_ediv, Int.zero_mul]
    · have inside : max 0 (min hi v) = v := by omega
      rw [inside, if_neg (by omega), Domain.rounded_of_even even]

/-! ### Codes -/

theorem Polarity.code_ofCode {held : Polarity} {v : Int} (known : v ∈ [0, 1]) : (Polarity.ofCode held v).code = v := by
  simp only [List.mem_cons, List.not_mem_nil, or_false] at known
  rcases known with rfl | rfl <;> rfl

@[simp] theorem Polarity.ofCode_code (held p : Polarity) : Polarity.ofCode held p.code = p := by cases p <;> rfl

theorem DirectionSign.code_ofCode {held : DirectionSign} {v : Int} (known : v ∈ [0, 1]) :
    (DirectionSign.ofCode held v).code = v := by
  simp only [List.mem_cons, List.not_mem_nil, or_false] at known
  rcases known with rfl | rfl <;> rfl

@[simp] theorem DirectionSign.ofCode_code (held d : DirectionSign) : DirectionSign.ofCode held d.code = d := by
  cases d <;> rfl

theorem EdgeMode.code_ofCode {held : EdgeMode} {v : Int} (known : v ∈ [0, 1, 2]) : (EdgeMode.ofCode held v).code = v := by
  simp only [List.mem_cons, List.not_mem_nil, or_false] at known
  rcases known with rfl | rfl | rfl <;> rfl

@[simp] theorem EdgeMode.ofCode_code (held m : EdgeMode) : EdgeMode.ofCode held m.code = m := by cases m <;> rfl

theorem Operands.laneSet_lanesOfBits {n : Nat} (small : n < 16) : Operands.laneSet (Operands.lanesOfBits n) = n := by
  have all : ∀ m < 16, Operands.laneSet (Operands.lanesOfBits m) = m := by decide
  exact all n small

@[simp] theorem Operands.lanesOfBits_laneSet (v : PerLane Bool) : Operands.lanesOfBits (Operands.laneSet v) = v := by
  obtain ⟨a, b, c, d⟩ := v
  revert a b c d
  decide

/-! ### Reading after writing -/

/-- A setting written with a value of its domain reads as that value. -/
theorem Settings.get_put_same {s : Settings} {k : Setting} {v : Int} (holds : k.domain.holds v) :
    (s.put k v).get k = v := by
  cases k
  case lanesFitted =>
    have small : v ∈ ([0, 1, 2, 3, 4, 5, 6, 7, 8, 9, 10, 11, 12, 13, 14, 15] : List Int) := holds
    have bounds : 0 ≤ v ∧ v < 16 := by
      simp only [List.mem_cons, List.not_mem_nil, or_false] at small
      omega
    show ((Operands.laneSet (Operands.lanesOfBits v.toNat) : Nat) : Int) = v
    rw [Operands.laneSet_lanesOfBits (by omega)]
    omega
  case tdnPolarity x =>
    show ((s.tdnPolarity.set x _).get x).code = v
    rw [PerLane.get_set, if_pos rfl, Polarity.code_ofCode holds]
  case directionSign => exact DirectionSign.code_ofCode holds
  case edgeMode => exact EdgeMode.code_ofCode holds
  case sdetPolarity => exact Polarity.code_ofCode holds
  case defaultNeed x => exact (PerLane.get_set s.defaultNeed x x v).trans (if_pos rfl)
  case laneOffset x => exact (PerLane.get_set s.laneOffset x x v).trans (if_pos rfl)
  all_goals rfl

/-- Every other setting reads as before. -/
theorem Settings.get_put_of_ne {s : Settings} {j k : Setting} (v : Int) (other : j ≠ k) : (s.put k v).get j = s.get j := by
  cases k
  case defaultNeed x => cases j <;> simp_all [Settings.put, Settings.get]
  case laneOffset x => cases j <;> simp_all [Settings.put, Settings.get]
  case tdnPolarity x => cases j <;> simp_all [Settings.put, Settings.get]
  all_goals cases j <;> first | rfl | exact absurd rfl other

/-- A setting written with the value it holds is as it was. -/
theorem Settings.put_get (s : Settings) (k : Setting) : s.put k (s.get k) = s := by
  cases k <;> simp [Settings.put, Settings.get]

theorem Settings.put_roles (s : Settings) (k : Setting) (v : Int) : (s.put k v).roles = s.roles := by cases k <;> rfl

theorem Polarity.code_injective : Function.Injective Polarity.code := fun p q same => by
  simpa using congrArg (Polarity.ofCode p) same

theorem DirectionSign.code_injective : Function.Injective DirectionSign.code := fun c d same => by
  simpa using congrArg (DirectionSign.ofCode c) same

theorem EdgeMode.code_injective : Function.Injective EdgeMode.code := fun m n same => by
  simpa using congrArg (EdgeMode.ofCode m) same

theorem Operands.laneSet_injective : Function.Injective Operands.laneSet := fun v w same => by
  simpa using congrArg Operands.lanesOfBits same

/-- Settings that read alike and have the same roles are the same. -/
theorem Settings.ext_get {s t : Settings} (reads : ∀ k, s.get k = t.get k) (roles : s.roles = t.roles) : s = t := by
  have fitted : s.lanesFitted = t.lanesFitted := Operands.laneSet_injective (Int.ofNat.inj (reads .lanesFitted))
  have need : s.defaultNeed = t.defaultNeed := PerLane.ext_get fun x => reads (.defaultNeed x)
  have offset : s.laneOffset = t.laneOffset := PerLane.ext_get fun x => reads (.laneOffset x)
  have tdn : s.tdnPolarity = t.tdnPolarity := PerLane.ext_get fun x => Polarity.code_injective (reads (.tdnPolarity x))
  have sign : s.directionSign = t.directionSign := DirectionSign.code_injective (reads .directionSign)
  have mode : s.edgeMode = t.edgeMode := EdgeMode.code_injective (reads .edgeMode)
  have sdet : s.sdetPolarity = t.sdetPolarity := Polarity.code_injective (reads .sdetPolarity)
  cases s
  cases t
  exact (Settings.mk.injEq ..).mpr ⟨reads .linkRate, reads .presenceInterval, reads .defaultStatusInterval, fitted, need,
    offset, tdn, reads .scalerBase, reads .scalerPattern, sign, reads .detectorLead, mode, sdet, reads .nominalWidth,
    reads .widthMin, reads .widthMax, reads .captureWindow, reads .minimumSpacing, reads .claimWindow, reads .holdWindow,
    reads .retireDistance, reads .creepTolerance, reads .liftTimeout, reads .holdOverdue, reads .downLimit,
    reads .tdnDebounce, reads .deepLift, roles⟩

/-! ### SET's write (R30, R155) -/

/-- The setting whose bound a write of k also keeps (R30). -/
def Setting.bounded? : Setting → Option Setting
  | .minimumSpacing => some .captureWindow
  | .widthMin => some .widthMax
  | _ => none

theorem Settings.get_boundOther {s : Settings} {j k : Setting} (other : k.bounded? ≠ some j) :
    (s.boundOther k).get j = s.get j := by
  cases k
  case minimumSpacing => cases j <;> first | rfl | exact absurd rfl other
  case widthMin => cases j <;> first | rfl | exact absurd rfl other
  all_goals rfl

/-- Apart from the bounds of R30 the value taken is the legalised one. -/
theorem Settings.valueTaken_eq {s : Settings} {k : Setting} (v : Int) (capture : k ≠ .captureWindow) (width : k ≠ .widthMax) :
    s.valueTaken k v = k.domain.legalise (s.get k) v := by
  cases k <;> first | rfl | exact absurd rfl capture | exact absurd rfl width

theorem Settings.valueTaken_captureWindow (s : Settings) (v : Int) :
    s.valueTaken .captureWindow v = min (max 20 (min 200 v)) (s.minimumSpacing / 2 - 1) := by
  simp [Settings.valueTaken, Setting.domain, Domain.legalise, Domain.clamp_eq, Settings.captureBound]

theorem Settings.valueTaken_widthMax (s : Settings) (v : Int) :
    s.valueTaken .widthMax v = max (max 120 (min 600 v)) s.widthMin := by
  simp [Settings.valueTaken, Setting.domain, Domain.legalise, Domain.clamp_eq]

/-- The value taken lies in the setting's domain: the bounds of R30 lie in it too. -/
theorem Settings.valueTaken_holds {s : Settings} (legal : s.legal) (k : Setting) (v : Int) :
    k.domain.holds (s.valueTaken k v) := by
  obtain ⟨domains, -, -, -⟩ := legal
  by_cases capture : k = .captureWindow
  · subst capture
    obtain ⟨least, -⟩ : Domain.holds (.range 300 900 1) s.minimumSpacing := domains .minimumSpacing
    rw [Settings.valueTaken_captureWindow]
    exact ⟨by omega, by omega, Int.emod_one _⟩
  · by_cases width : k = .widthMax
    · subst width
      obtain ⟨-, greatest, -⟩ : Domain.holds (.range 80 400 1) s.widthMin := domains .widthMin
      rw [Settings.valueTaken_widthMax]
      exact ⟨by omega, by omega, Int.emod_one _⟩
    · rw [Settings.valueTaken_eq v capture width]
      exact Domain.legalise_holds k.domain_sound (domains k) v

theorem Settings.get_write_same {s : Settings} (legal : s.legal) (k : Setting) (v : Int) :
    (s.write k v).get k = s.valueTaken k v := by
  rw [Settings.write, Settings.get_boundOther (by cases k <;> simp [Setting.bounded?]),
    Settings.get_put_same (Settings.valueTaken_holds legal k v)]

theorem Settings.get_write_of_ne {s : Settings} {j k : Setting} (v : Int) (other : j ≠ k) (free : k.bounded? ≠ some j) :
    (s.write k v).get j = s.get j := by
  rw [Settings.write, Settings.get_boundOther free, Settings.get_put_of_ne _ other]

theorem Settings.write_roles (s : Settings) (k : Setting) (v : Int) : (s.write k v).roles = s.roles := by
  have bound (u : Settings) : (u.boundOther k).roles = u.roles := by cases k <;> rfl
  rw [Settings.write, bound, Settings.put_roles]

/-- A write of the minimum spacing brings the capture window within its bound (R30). -/
theorem Settings.write_minimumSpacing (s : Settings) (v : Int) :
    (s.write .minimumSpacing v).captureWindow =
      min s.captureWindow ((s.write .minimumSpacing v).minimumSpacing / 2 - 1) := rfl

/-- A write of the least width brings the greatest width within its bound (R30). -/
theorem Settings.write_widthMin (s : Settings) (v : Int) :
    (s.write .widthMin v).widthMax = max s.widthMax (s.write .widthMin v).widthMin := rfl

/-- A write keeps the settings legal. -/
theorem Settings.write_legal {s : Settings} (legal : s.legal) (k : Setting) (v : Int) : (s.write k v).legal := by
  have unbounded : ∀ j, k.bounded? ≠ some j → j.domain.holds ((s.write k v).get j) := fun j free => by
    by_cases same : j = k
    · subst same
      rw [Settings.get_write_same legal]
      exact Settings.valueTaken_holds legal j v
    · rw [Settings.get_write_of_ne v same free]
      exact legal.1 j
  obtain ⟨domains, capture, width, roles⟩ := legal
  refine ⟨fun j => ?_, ?_, ?_, (s.write_roles k v).symm ▸ roles⟩
  · by_cases free : k.bounded? = some j
    · cases k <;> simp only [Setting.bounded?, Option.some.injEq, reduceCtorEq] at free <;> subst free
      case minimumSpacing =>
        obtain ⟨least, -⟩ : Domain.holds (.range 300 900 1) (s.write .minimumSpacing v).minimumSpacing :=
          unbounded .minimumSpacing (by simp [Setting.bounded?])
        obtain ⟨low, high, -⟩ : Domain.holds (.range 20 200 1) s.captureWindow := domains .captureWindow
        show Domain.holds (.range 20 200 1) (s.write .minimumSpacing v).captureWindow
        rw [Settings.write_minimumSpacing]
        exact ⟨by omega, by omega, Int.emod_one _⟩
      case widthMin =>
        obtain ⟨-, greatest, -⟩ : Domain.holds (.range 80 400 1) (s.write .widthMin v).widthMin :=
          unbounded .widthMin (by simp [Setting.bounded?])
        obtain ⟨low, high, -⟩ : Domain.holds (.range 120 600 1) s.widthMax := domains .widthMax
        show Domain.holds (.range 120 600 1) (s.write .widthMin v).widthMax
        rw [Settings.write_widthMin]
        exact ⟨by omega, by omega, Int.emod_one _⟩
    · exact unbounded j free
  · cases k
    case captureWindow => exact Int.le_trans (Int.le_of_eq (s.valueTaken_captureWindow v)) (Int.min_le_right _ _)
    case minimumSpacing => exact Int.min_le_right _ _
    all_goals exact capture
  · cases k
    case widthMax => exact Int.le_trans (Int.le_max_right _ _) (Int.le_of_eq (s.valueTaken_widthMax v).symm)
    case widthMin => exact Int.le_max_right _ _
    all_goals exact width

/-- A value of the domain within the bounds of R30 is taken as it is. -/
theorem Settings.valueTaken_of_holds {s : Settings} {k : Setting} {v : Int} (holds : k.domain.holds v)
    (capture : k = .captureWindow → v ≤ s.minimumSpacing / 2 - 1) (width : k = .widthMax → s.widthMin ≤ v) :
    s.valueTaken k v = v := by
  have taken : k.domain.legalise (s.get k) v = v := Domain.legalise_of_holds k.domain_sound holds
  by_cases isCapture : k = .captureWindow
  · subst isCapture
    exact (congrArg (min · _) taken).trans (Int.min_eq_left (capture rfl))
  · by_cases isWidth : k = .widthMax
    · subst isWidth
      exact (congrArg (max · _) taken).trans (Int.max_eq_left (width rfl))
    · rw [Settings.valueTaken_eq v isCapture isWidth, taken]

/-- The three cases of a range: below, above and inside (R155). -/
theorem Domain.legalise_range {lo hi step : Int} (sound : (Domain.range lo hi step).sound) (held v : Int) :
    (v < lo → (Domain.range lo hi step).legalise held v = lo) ∧
      (hi < v → (Domain.range lo hi step).legalise held v = hi) ∧
      (lo ≤ v → v ≤ hi → (Domain.range lo hi step).legalise held v = v - v % step) := by
  obtain ⟨-, ordered, low, high⟩ := sound
  rw [Domain.legalise, Domain.clamp_eq lo hi v ordered]
  refine ⟨fun below => ?_, fun above => ?_, fun low high => ?_⟩
  · have inside : max lo (min hi v) = lo := by omega
    rw [inside, Domain.rounded_of_even low]
  · have inside : max lo (min hi v) = hi := by omega
    rw [inside, Domain.rounded_of_even high]
  · have inside : max lo (min hi v) = v := by omega
    have := Int.ediv_mul_add_emod v step
    rw [inside]
    omega

/-- An enumerated value outside its set changes nothing (R155). -/
theorem Settings.write_of_unknown {s : Settings} {k : Setting} {v : Int} {codes : List Int}
    (enumerated : k.domain = .codes codes) (unknown : v ∉ codes) : s.write k v = s := by
  have capture : k ≠ .captureWindow := fun same => by simp [same, Setting.domain] at enumerated
  have width : k ≠ .widthMax := fun same => by simp [same, Setting.domain] at enumerated
  have unbounded : s.boundOther k = s := by
    cases k <;> first | rfl | simp [Setting.domain] at enumerated
  rw [Settings.write, Settings.valueTaken_eq v capture width, enumerated, Domain.legalise, if_neg unknown,
    Settings.put_get, unbounded]

/-- Settles O43. -/
theorem writesAreLegalised : Obligations.WritesAreLegalised := by
  refine ⟨fun s k v legal => ⟨Settings.write_legal legal k v, fun j other capture width => ?_, s.write_roles k v,
    fun holds capture width => ?_, fun lo hi step range capture width => ?_, ?_, ?_, ?_, ?_, ?_,
    fun codes => Settings.write_of_unknown⟩, rfl, rfl, rfl⟩
  · refine Settings.get_write_of_ne v other fun bound => ?_
    cases k <;> simp only [Setting.bounded?, Option.some.injEq, reduceCtorEq] at bound
    case minimumSpacing => exact capture rfl bound.symm
    case widthMin => exact width rfl bound.symm
  · rw [Settings.get_write_same legal, Settings.valueTaken_of_holds holds capture width]
  · rw [Settings.get_write_same legal, Settings.valueTaken_eq v capture width, range]
    exact Domain.legalise_range (range ▸ k.domain_sound) _ v
  · rintro rfl
    exact (Settings.get_write_same legal .captureWindow v).trans (s.valueTaken_captureWindow v)
  · rintro rfl
    exact (Settings.get_write_same legal .widthMax v).trans (s.valueTaken_widthMax v)
  · rintro rfl
    exact s.write_minimumSpacing v
  · rintro rfl
    exact s.write_widthMin v
  · rintro rfl
    have taken : (s.write .defaultStatusInterval v).defaultStatusInterval =
        (if 0 < max 0 (min 2550 v) ∧ max 0 (min 2550 v) < 20 then 20 else max 0 (min 2550 v) / 10 * 10) :=
      congrArg (fun t => if 0 < t ∧ t < 20 then (20 : Int) else t / 10 * 10) (Domain.clamp_eq 0 2550 v (by omega))
    rw [taken]
    refine ⟨?_, ?_, ?_, ?_⟩ <;> omega

end Sys2Proof.Machine
end

section
/-! PROOFS. The image that SAVE writes gives back the settings it was written from (R157, R158). -/

namespace Sys2Proof.Machine

/-! ### Numbers in four bytes -/

/-- A number that fits 32 bits reads back from the four bytes that carry it. -/
theorem Operands.signedList_carryAxis {v : Int} (low : -2147483648 ≤ v) (high : v ≤ 2147483647) (rest : List Byte) :
    Operands.signedList (Operands.carryAxis v ++ rest) = v :: Operands.signedList rest := by
  have joined (w : BitVec 32) :
      (((w.extractLsb' 24 8 ++ w.extractLsb' 16 8 : BitVec 16) ++
        (w.extractLsb' 8 8 ++ w.extractLsb' 0 8 : BitVec 16)) : BitVec 32) = w := by
    ext i hi
    simp
    grind
  simp only [Operands.carryAxis, Operands.carry4, List.cons_append, List.nil_append, Operands.signedList,
    Operands.signed4, joined, BitVec.toInt_ofInt]
  congr 1
  refine Int.bmod_eq_of_le ?_ ?_
  · omega
  · omega

theorem Operands.signedList_flatMap {vs : List Int} (fit : ∀ v ∈ vs, -2147483648 ≤ v ∧ v ≤ 2147483647) :
    Operands.signedList (vs.flatMap Operands.carryAxis) = vs := by
  induction vs with
  | nil => rfl
  | cons v vs ih =>
    obtain ⟨⟨low, high⟩, rest⟩ := List.forall_mem_cons.1 fit
    rw [List.flatMap_cons, Operands.signedList_carryAxis low high, ih rest]

@[simp] theorem Operands.length_carryAxis (v : Int) : (Operands.carryAxis v).length = 4 := rfl

@[simp] theorem Operands.length_carry2 (w : BitVec 16) : (Operands.carry2 w).length = 2 := rfl

theorem Operands.length_flatMap_carryAxis (vs : List Int) : (vs.flatMap Operands.carryAxis).length = 4 * vs.length := by
  induction vs with
  | nil => rfl
  | cons v vs ih => simp [ih]; omega

/-! ### The values of legal settings -/

/-- Every value of a domain of the table fits 32 bits. -/
theorem Setting.holds_fits {k : Setting} {v : Int} (holds : k.domain.holds v) : -2147483648 ≤ v ∧ v ≤ 2147483647 := by
  cases k <;> simp only [Setting.domain, Domain.holds, List.mem_cons, List.not_mem_nil, or_false] at holds <;> omega

theorem PortRole.rightsCode_le (r : PortRole) : r.rightsCode ≤ 7 := by
  unfold PortRole.rightsCode
  split <;> split <;> split <;> omega

theorem PortRole.carriedValue_bounds (r : PortRole) : 0 ≤ r.carriedValue ∧ r.carriedValue ≤ 1799 := by
  have role : r.role.code ≤ 7 := by
    cases r.role with
    | unit x => cases x <;> decide
    | _ => decide
  have rights := r.rightsCode_le
  unfold PortRole.carriedValue
  omega

theorem PortRole.ofCodes?_codes (r : PortRole) : PortRole.ofCodes? r.role.code r.rightsCode = some r := by
  obtain ⟨role, setup, freeze, read⟩ := r
  have roles : Role.ofCode? role.code = some role := by
    cases role with
    | unit x => cases x <;> rfl
    | _ => rfl
  simp only [PortRole.ofCodes?, roles, Option.map_some]
  cases setup <;> cases freeze <;> cases read <;> simp [PortRole.rightsCode]

/-- A role and its rights read back from their carried value. -/
theorem PortRole.ofCarried_carriedValue (held r : PortRole) : PortRole.ofCarried held r.carriedValue = r := by
  have rights : r.rightsCode ≤ 7 := r.rightsCode_le
  have role : r.carriedValue.toNat / 256 = r.role.code := by unfold PortRole.carriedValue; omega
  have right : r.carriedValue.toNat % 256 = r.rightsCode := by unfold PortRole.carriedValue; omega
  rw [PortRole.ofCarried, role, right, PortRole.ofCodes?_codes, Option.getD_some]

theorem Settings.values_fit {s : Settings} (legal : s.legal) : ∀ v ∈ s.values, -2147483648 ≤ v ∧ v ≤ 2147483647 := by
  intro v mem
  rcases List.mem_append.1 mem with set | role
  · obtain ⟨k, -, rfl⟩ := List.mem_map.1 set
    exact Setting.holds_fits (legal.1 k)
  · obtain ⟨r, -, rfl⟩ := List.mem_map.1 role
    have := r.carriedValue_bounds
    omega

theorem Setting.mem_all (k : Setting) : k ∈ Setting.all := by
  cases k with
  | defaultNeed x => cases x <;> decide
  | laneOffset x => cases x <;> decide
  | tdnPolarity x => cases x <;> decide
  | _ => decide

/-- Writing the values that some legal settings read for a list of settings makes those read alike, and leaves the rest. -/
theorem Settings.get_foldl_put {t : Settings} (legal : t.legal) (j : Setting) (ks : List Setting) : ∀ s : Settings,
    (((ks.zip (ks.map t.get)).foldl (fun s kv => s.put kv.1 kv.2) s).get j =
      if j ∈ ks then t.get j else s.get j) := by
  induction ks with
  | nil => simp
  | cons k ks ih =>
    intro s
    simp only [List.map_cons, List.zip_cons_cons, List.foldl_cons, ih, List.mem_cons]
    by_cases later : j ∈ ks
    · simp [later]
    · by_cases same : j = k
      · subst same
        simp [later, Settings.get_put_same (legal.1 j)]
      · simp [later, same, Settings.get_put_of_ne _ same]

/-- Settings read back from their values. -/
theorem Settings.ofValues_values {s : Settings} (legal : s.legal) : Settings.ofValues s.values = s := by
  have first : Setting.all.zip s.values = Setting.all.zip (Setting.all.map s.get) := rfl
  refine Settings.ext_get (fun k => ?_) ?_
  · have read (u : Settings) (roles : PerPort PortRole) : ({ u with roles := roles } : Settings).get k = u.get k := by
      cases k <;> rfl
    rw [Settings.ofValues]
    dsimp only
    rw [read, first, Settings.get_foldl_put legal, if_pos k.mem_all]
  · have last : s.values.drop 36 = s.roles.toList.map PortRole.carriedValue := rfl
    simp only [Settings.ofValues, last, PerPort.toList, List.map_cons, List.map_nil, List.getD_cons_zero,
      List.getD_cons_succ, PortRole.ofCarried_carriedValue]

/-! ### The image -/

theorem StoreImage.length_head (s : Settings) : (StoreImage.head s).length = 172 := by
  rw [StoreImage.head, List.length_append, Operands.length_flatMap_carryAxis]
  rfl

/-- The bytes of the image that SAVE writes. -/
def StoreImage.written (s : Settings) : List Byte :=
  StoreImage.head s ++ Operands.carry2 (Frames.crc16 (StoreImage.head s)) ++ List.replicate 82 0xFF

theorem StoreImage.take_written (s : Settings) : (StoreImage.written s).take 172 = StoreImage.head s := by
  rw [StoreImage.written, List.append_assoc, List.take_left' (StoreImage.length_head s)]

theorem StoreImage.judge_ofSettings (s : Settings) : (StoreImage.ofSettings s).judge = .valid := by
  show (StoreImage.bytes (StoreImage.written s)).judge = .valid
  have tag : (StoreImage.written s).take 4 = [0xA5, 0x5A, 0x00, 0xA8] := rfl
  have written : (StoreImage.written s).take 16 ≠ List.replicate 16 0xFF := fun same => by
    have := congrArg (fun l => l.take 4) same
    rw [List.take_take] at this
    exact absurd (tag.symm.trans this) (by decide)
  have check : ((StoreImage.written s).drop 172).take 2 = Operands.carry2 (Frames.crc16 ((StoreImage.written s).take 172)) := by
    rw [StoreImage.take_written, StoreImage.written, List.append_assoc, List.drop_left' (StoreImage.length_head s)]
    rfl
  rw [StoreImage.judge, if_neg written, if_pos ⟨tag, check⟩]

theorem StoreImage.settings_of_valid {b : List Byte} (valid : (StoreImage.bytes b).judge = .valid) :
    (StoreImage.bytes b).settings = Settings.ofValues (Operands.signedList ((b.drop 4).take 168)) := by
  simp [StoreImage.settings, valid]

theorem StoreImage.settings_ofSettings {s : Settings} (legal : s.legal) : (StoreImage.ofSettings s).settings = s := by
  have carried : ((StoreImage.written s).drop 4).take 168 = s.values.flatMap Operands.carryAxis := by
    rw [List.take_drop, StoreImage.take_written]
    rfl
  have valid : (StoreImage.bytes (StoreImage.written s)).judge = .valid := StoreImage.judge_ofSettings s
  show (StoreImage.bytes (StoreImage.written s)).settings = s
  rw [StoreImage.settings_of_valid valid, carried, Operands.signedList_flatMap (Settings.values_fit legal), Settings.ofValues_values legal]

/-- Settles O47. -/
theorem storeImageRoundTrip : Obligations.StoreImageRoundTrip := by
  refine fun s legal => ⟨⟨StoreImage.written s, rfl, ?_, rfl, ?_⟩, StoreImage.judge_ofSettings s,
    StoreImage.settings_ofSettings legal⟩
  · simp [StoreImage.written, StoreImage.length_head]
  · rw [StoreImage.written, List.drop_left' (by simp [StoreImage.length_head])]

end Sys2Proof.Machine
end

section
/-! PROOFS. What the bounds, the settings, a candidate that waits and an axis change that waits depend on, and what the
shared operations do to it. -/

namespace Sys2Proof.Machine

/-! ### The relation -/

/-- From s to t the bounds and the legality of the settings stand where they stood, and neither a candidate nor an axis
change begins or ceases to wait. -/
structure State.Still (s t : State) : Prop where
  bounds : s.inBounds → t.inBounds
  legal : s.settingsLegal → t.settingsLegal
  made : t.detector.made = s.detector.made
  waits : t.list.changeWaits = s.list.changeWaits

/-- A port's queue and key window are within their bounds (R135, R141). -/
def PortState.bounded (v : PortState) : Prop := v.queue.length ≤ 4 ∧ v.keyCount ≤ 3

theorem State.still_refl (s : State) : s.Still s := ⟨id, id, rfl, rfl⟩

theorem State.Still.trans {s t u : State} (first : s.Still t) (second : t.Still u) : s.Still u :=
  ⟨second.bounds ∘ first.bounds, second.legal ∘ first.legal, second.made.trans first.made,
    second.waits.trans first.waits⟩

/-- What changes none of the items changes nothing that the relation reads; `simp` with the laws of the operations tells. -/
theorem State.still_of_eq {s t : State} (axis : t.axis = s.axis := by simp) (ports : t.ports = s.ports := by simp)
    (freeze : t.freeze = s.freeze := by simp) (store : t.store = s.store := by simp)
    (made : t.detector.made = s.detector.made := by simp) (waits : t.list.changeWaits = s.list.changeWaits := by simp) :
    s.Still t := by
  refine ⟨fun bounds => ?_, fun legal => ?_, made, waits⟩
  · rwa [State.inBounds, axis, ports, freeze]
  · rwa [State.settingsLegal, State.live, store]

theorem State.still_settle (s : State) : s.Still s.settle := State.still_of_eq

/-- A change of the ports within their bounds. -/
theorem State.still_of_ports {s t : State} (ports : ∀ p, (s.ports.get p).bounded → (t.ports.get p).bounded)
    (axis : t.axis = s.axis := by simp) (freeze : t.freeze = s.freeze := by simp) (store : t.store = s.store := by simp)
    (made : t.detector.made = s.detector.made := by simp) (waits : t.list.changeWaits = s.list.changeWaits := by simp) :
    s.Still t := by
  refine ⟨fun ⟨low, high, bounded, further⟩ => ?_, fun legal => ?_, made, waits⟩
  · rw [State.inBounds, axis, freeze]
    exact ⟨low, high, fun p => ports p (bounded p), further⟩
  · rwa [State.settingsLegal, State.live, store]

/-- A change of the store that keeps the settings legal. -/
theorem State.still_of_store {s t : State} (legal : s.settingsLegal → t.settingsLegal)
    (axis : t.axis = s.axis := by simp) (ports : t.ports = s.ports := by simp) (freeze : t.freeze = s.freeze := by simp)
    (made : t.detector.made = s.detector.made := by simp) (waits : t.list.changeWaits = s.list.changeWaits := by simp) :
    s.Still t := by
  refine ⟨fun bounds => ?_, legal, made, waits⟩
  rwa [State.inBounds, axis, ports, freeze]

theorem State.still_updatePort (s : State) (p : Port) {f : PortState → PortState}
    (bounded : ∀ v : PortState, v.bounded → (f v).bounded) : s.Still (s.updatePort p f) := by
  refine State.still_of_ports fun i before => ?_
  show ((s.ports.modify p f).get i).bounded
  rw [PerPort.get_modify]
  split
  next same => exact bounded _ (same ▸ before)
  next => exact before

/-! ### The list and the detector -/

@[simp] theorem State.updateEntry_changeWaits (s : State) (q : SeqNo) (f : Entry → Entry) :
    (s.updateEntry q f).list.changeWaits = s.list.changeWaits := rfl

@[simp] theorem State.updateLaneRecord_changeWaits (s : State) (q : SeqNo) (x : Lane) (f : LaneRecord → LaneRecord) :
    (s.updateLaneRecord q x f).list.changeWaits = s.list.changeWaits := rfl

@[simp] theorem State.setStatus_changeWaits (s : State) (q : SeqNo) (x : Lane) (st : LaneStatus) :
    (s.setStatus q x st).list.changeWaits = s.list.changeWaits := rfl

@[simp] theorem State.depart_changeWaits (s : State) (e : Entry) (es : List Entry) (o : PassageOutcome) :
    (s.depart e es o).list.changeWaits = s.list.changeWaits := by
  simp [State.depart]

@[simp] theorem State.holdBack_changeWaits (s : State) (e : Entry) (es : List Entry) :
    (s.holdBack e es).list.changeWaits = s.list.changeWaits := by
  unfold State.holdBack
  split <;> simp

@[simp] theorem State.retireFrom_changeWaits (a : Int) (es : List Entry) (s : State) :
    (State.retireFrom a es s).list.changeWaits = s.list.changeWaits := by
  induction es generalizing s with
  | nil => rfl
  | cons e es ih =>
    unfold State.retireFrom
    split
    · rfl
    · split
      · simp
      · simp [ih]

@[simp] theorem State.retire_changeWaits (s : State) : s.retire.list.changeWaits = s.list.changeWaits :=
  State.retireFrom_changeWaits _ _ s

@[simp] theorem State.create_changeWaits (s : State) (a : Int) (w : Nat) (o : Origin) :
    (s.create a w o).list.changeWaits = s.list.changeWaits := by
  simp [State.create]

@[simp] theorem State.decideOffer_changeWaits (s : State) (c : Int) (w : Nat) :
    (s.decideOffer c w).list.changeWaits = s.list.changeWaits := by
  unfold State.decideOffer
  split
  · rfl
  · split
    · simp
    · split
      · rfl
      · simp

@[simp] theorem State.decideOffer_made (s : State) (c : Int) (w : Nat) :
    (s.decideOffer c w).detector.made = s.detector.made := by
  unfold State.decideOffer
  split
  · simp
  · split
    · rfl
    · split
      · rfl
      · simp

@[simp] theorem State.offer_waiting (s : State) (c : Int) (w : Nat) :
    (s.offer c w).list.changeWaits = s.list.changeWaits ∧ (s.offer c w).detector.made = s.detector.made := by
  simp [State.offer]

@[simp] theorem State.detectorWatch_made (s : State) (d : Direction) :
    (s.detectorWatch d).detector.made = s.detector.made := by
  unfold State.detectorWatch
  split <;> rfl

/-! ### Causes, faults and claims -/

theorem State.still_handCause (s : State) (c : FreezeCause) (o : FreezeSource) (q : Option SeqNo) :
    s.Still (s.handCause c o q) := by
  refine ⟨fun ⟨low, high, bounded, further⟩ => ?_, fun legal => ?_, by simp, by simp⟩
  · rw [State.inBounds]
    simp only [State.handCause_keeps]
    refine ⟨low, high, bounded, ?_⟩
    unfold State.handCause
    split
    · exact Nat.zero_le 15
    · exact Nat.min_le_right _ _
  · have store : (s.handCause c o q).store = s.store := by simp
    rwa [State.settingsLegal, State.live, store]

@[simp] theorem State.failEntry_changeWaits (s : State) (x : Lane) (q : Option SeqNo) :
    (s.failEntry x q).list.changeWaits = s.list.changeWaits := by
  cases q <;> simp [State.failEntry]

theorem State.still_faultLane (s : State) (x : Lane) (c : LaneFaultCause) (d : Nat) : s.Still (s.faultLane x c d) :=
  State.still_of_eq (waits := by simp [State.faultLane])

theorem State.still_unpermittedDescent (s : State) (x : Lane) : s.Still (s.unpermittedDescent x) :=
  (s.still_faultLane x _ _).trans (State.still_handCause _ _ _ _)

theorem State.still_takeAssertion (s : State) (x : Lane) : s.Still (s.takeAssertion x) := by
  unfold State.takeAssertion
  split
  case h_1 => exact s.still_refl
  case h_2 => exact s.still_unpermittedDescent x
  case h_3 q _ =>
    split
    · split
      · exact State.still_of_eq
      · exact s.still_faultLane x _ _
    · exact s.still_unpermittedDescent x
  case h_4 => exact s.still_refl
  case h_5 => exact s.still_unpermittedDescent x
  case h_6 => exact State.Still.trans (t := s.updateLane x _) State.still_of_eq (State.still_handCause _ _ _ _)

theorem State.still_takeRelease (s : State) (x : Lane) : s.Still (s.takeRelease x) :=
  State.still_of_eq (waits := by unfold State.takeRelease; split <;> simp [State.countSqueeze])

theorem State.still_takeDebounced (s : State) (x : Lane) : s.Still (s.takeDebounced x) := by
  unfold State.takeDebounced
  dsimp only
  split
  · exact State.Still.trans (t := s.updateLane x _) State.still_of_eq (State.still_takeAssertion _ x)
  · exact State.Still.trans (t := s.updateLane x _) State.still_of_eq (State.still_takeRelease _ x)

theorem State.still_expireDown (s : State) (x : Lane) : s.Still (s.expireDown x) := by
  unfold State.expireDown
  split
  · exact s.still_faultLane x _ _
  · exact s.still_refl

theorem State.still_expireOverdue (s : State) : s.Still s.expireOverdue :=
  State.still_of_eq (waits := by unfold State.expireOverdue; split <;> simp)

@[simp] theorem State.endClaim_changeWaits (s : State) (x : Lane) (q : SeqNo) (st : LaneStatus) :
    (s.endClaim x q st).list.changeWaits = s.list.changeWaits := by
  simp [State.endClaim]

@[simp] theorem State.revokeEach_changeWaits (w : State → Lane → Option SeqNo) (xs : List Lane) (s : State) :
    (State.revokeEach w xs s).list.changeWaits = s.list.changeWaits := by
  induction xs generalizing s with
  | nil => rfl
  | cons x xs ih => cases h : w s x <;> simp [State.revokeEach, h, ih, State.revoke]

/-! ### Ports that are lost, and timers -/

theorem State.still_blocksLosePort (s : State) (p : Port) : s.Still (s.blocksLosePort p) := by
  unfold State.blocksLosePort
  split
  next x _ =>
    unfold State.laneLosesPort
    split
    · exact State.still_of_eq
    next q ms _ =>
      refine State.Still.trans (t := s.setLane x (.orphaned q)) State.still_of_eq ?_
      exact (State.still_handCause _ .orphanDown (.lane x) (some q)).trans State.still_of_eq
    · exact s.still_refl
  · unfold State.holdLosesPort
    split
    · exact s.still_handCause _ _ _
    · exact s.still_refl
  · exact State.still_of_eq
  · exact s.still_refl
  · exact s.still_refl

theorem State.still_expirePresence (s : State) (p : Port) : s.Still (s.expirePresence p) := by
  unfold State.expirePresence
  split
  · exact s.still_refl
  · refine (s.still_updatePort p (f := fun v => { v with presence := .absent, keyCount := 0 })
      fun v ⟨queue, _⟩ => ⟨queue, Nat.zero_le 3⟩).trans ?_
    exact (State.still_blocksLosePort _ p).trans State.still_of_eq

theorem State.still_runExpiry (s : State) (c : Instr) : s.Still (s.runExpiry c) := by
  unfold State.runExpiry
  split
  · split
    · exact s.still_takeDebounced _
    · exact s.still_takeDebounced _
    · exact s.still_expireDown _
    · exact State.still_of_eq
    · exact s.still_expireOverdue
    · exact s.still_expirePresence _
    · exact s.still_refl
  · exact s.still_refl

theorem State.still_foldl {α : Type} {f : State → α → State} (each : ∀ (s : State) a, s.Still (f s a)) (l : List α)
    (s : State) : s.Still (l.foldl f s) := by
  induction l generalizing s with
  | nil => exact s.still_refl
  | cons a l ih => exact (each s a).trans (ih (f s a))

/-! ### Settings that take effect -/

theorem State.still_fittedEffect (s : State) (old : Settings) (x : Lane) : s.Still (s.fittedEffect old x) := by
  rw [State.fittedEffect_eq]
  split
  · split
    · exact (State.Still.trans (t := s.setLane x .idle) State.still_of_eq (State.still_faultLane _ x _ _)).trans
        (State.still_handCause _ _ _ _)
    · exact State.still_of_eq
  · split
    · exact State.still_of_eq
    · exact s.still_refl

theorem State.still_settingsEffect (s : State) (old : Settings) : s.Still (s.settingsEffect old) := by
  have mode (u : State) : u.Still (u.edgeModeEffect old) := by
    unfold State.edgeModeEffect
    split
    · exact u.still_refl
    · exact State.still_of_eq (made := rfl)
  have polarity (u : State) : u.Still (u.sdetPolarityEffect old) := by
    unfold State.sdetPolarityEffect
    split
    · exact u.still_refl
    · exact State.still_of_eq (made := rfl)
  have measure (u : State) (x : Lane) : u.Still (u.tdnPolarityEffect old x) := by
    unfold State.tdnPolarityEffect
    split
    · exact u.still_refl
    · exact State.still_of_eq
  have expiries (u : State) : u.Still (u.expireAtOnce old) :=
    State.Still.trans (t := { u with freeCount := u.countAfter (u.dueAtOnce old) }) State.still_of_eq
      (State.still_foldl State.still_runExpiry _ _)
  exact ((((mode s).trans (polarity _)).trans (State.still_foldl measure _ _)).trans
    (State.still_foldl (fun u x => u.still_fittedEffect old x) _ _)).trans (expiries _)

/-- New settings that are legal take effect. -/
theorem State.still_writeSettings {s : State} {new : Settings} (legal : s.settingsLegal → new.legal) :
    s.Still (s.writeSettings new) := by
  rw [State.writeSettings_eq]
  refine State.Still.trans (t := { s with store := { s.store with live := new } }) ?_ (State.still_settingsEffect _ _)
  refine State.still_of_store fun before => ?_
  obtain ⟨-, image, snapshot⟩ := id before
  exact ⟨legal before, image, snapshot⟩

end Sys2Proof.Machine
end

section
/-! PROOFS. What each request does to the bounds, the settings and what waits. -/

namespace Sys2Proof.Machine

/-! ### Taking and answering -/

theorem State.still_judge {s : State} {checks : List (Bool × Result)} {accepted : Reply}
    (does : (∀ c ∈ checks, c.1 = false) → s.Still accepted.state) : s.Still (Reply.judge s checks accepted).state := by
  unfold Reply.judge
  cases low : Operands.lowestRefusal checks with
  | some r => exact s.still_refl
  | none => exact does ((Operands.lowestRefusal_eq_none_iff checks).1 low)

/-- A use of the key window leaves at most three counts (R141). -/
theorem KeyUse.apply_le {k : KeyUse} {n : Nat} (bounded : n ≤ 3) : k.apply n ≤ 3 := by
  cases k <;> simp only [KeyUse.apply] <;> omega

theorem State.still_sendResponse (s : State) (p : Port) (f : TxFrame) : s.Still (s.sendResponse p f) :=
  s.still_updatePort p fun v bounded => by
    cases v with | mk _ _ _ _ _ _ sending _ _ => cases sending <;> exact bounded

theorem State.still_respond (p : Port) (r : Request) (a : Reply) : a.state.Still (State.respond p r a) := by
  have keyed : a.state.Still (a.state.useKey p a.key) :=
    State.still_updatePort _ p fun v ⟨queue, key⟩ => ⟨queue, KeyUse.apply_le key⟩
  unfold State.respond
  split
  · exact keyed
  · exact keyed.trans (State.still_sendResponse _ _ _)

theorem State.still_popQueue (s : State) (p : Port) : s.Still (s.popQueue p) :=
  State.still_updatePort _ p fun v ⟨queue, key⟩ => ⟨by simp only [List.length_tail]; omega, key⟩

theorem State.still_takeRequest {s : State} {p : Port} {code : Byte} {judge : State → Request → Reply}
    (does : ∀ r, (s.popQueue p).Still (judge (s.popQueue p) r).state) : s.Still (s.takeRequest p code judge) := by
  unfold State.takeRequest
  split
  · exact s.still_refl
  next r _ => exact (((s.still_popQueue p).trans (does r)).trans (State.still_respond p r _)).trans State.still_of_eq

/-! ### Requests that read, and those on ports, events and the store -/

theorem State.still_judgeReadState (s : State) (r : Request) : s.Still (s.judgeReadState r).state := by
  unfold State.judgeReadState
  split <;> exact s.still_refl

theorem State.still_judgeReadEntry (p : Port) (s : State) (r : Request) : s.Still (State.judgeReadEntry p s r).state := by
  unfold State.judgeReadEntry
  split
  · exact State.still_judge fun _ => by split <;> exact s.still_refl
  · exact s.still_refl

theorem State.still_judgeReadRegister (p : Port) (s : State) (r : Request) :
    s.Still (State.judgeReadRegister p s r).state := by
  unfold State.judgeReadRegister
  split
  · exact State.still_judge fun _ => s.still_refl
  · exact s.still_refl

theorem State.still_judgeReadPassages (p : Port) (s : State) (r : Request) :
    s.Still (State.judgeReadPassages p s r).state := by
  unfold State.judgeReadPassages
  split
  · exact State.still_judge fun _ => s.still_refl
  · exact s.still_refl

theorem State.still_judgeReadCounters (p : Port) (s : State) (r : Request) :
    s.Still (State.judgeReadCounters p s r).state := by
  unfold State.judgeReadCounters
  split
  · exact State.still_judge fun _ => s.still_refl
  · exact s.still_refl

theorem State.still_judgeReadSetting (p : Port) (s : State) (r : Request) :
    s.Still (State.judgeReadSetting p s r).state := by
  unfold State.judgeReadSetting
  split
  · split
    · exact s.still_refl
    · exact State.still_judge fun _ => s.still_refl
  · exact s.still_refl

theorem State.still_judgeReadFault (p : Port) (s : State) (r : Request) :
    s.Still (State.judgeReadFault p s r).state := by
  unfold State.judgeReadFault
  split
  · split
    · exact s.still_refl
    · exact State.still_judge fun _ => s.still_refl
  · exact s.still_refl

theorem State.still_judgePresent (p : Port) (s : State) (r : Request) : s.Still (State.judgePresent p s r).state := by
  unfold State.judgePresent
  split <;> exact s.still_refl

theorem State.still_judgeKey (p : Port) (s : State) (r : Request) : s.Still (State.judgeKey p s r).state := by
  unfold State.judgeKey
  split
  · exact State.still_judge fun _ => by split <;> exact s.still_refl
  · exact s.still_refl

theorem State.still_judgeReadEvents (p : Port) (s : State) (r : Request) :
    s.Still (State.judgeReadEvents p s r).state := by
  unfold State.judgeReadEvents
  split
  · exact State.still_of_eq (s := s) (t := s.updateEvents p EventPort.delivered)
  · exact s.still_refl

theorem State.still_judgeEventMask (p : Port) (s : State) (r : Request) :
    s.Still (State.judgeEventMask p s r).state := by
  unfold State.judgeEventMask
  split
  · exact State.still_of_eq (s := s) (t := s.updateEvents p _)
  · exact s.still_refl

theorem State.still_judgeStatusInterval (p : Port) (s : State) (r : Request) :
    s.Still (State.judgeStatusInterval p s r).state := by
  unfold State.judgeStatusInterval
  split
  · exact State.still_of_eq (s := s) (t := s.updateEvents p _)
  · exact s.still_refl

/-- The snapshot of a save is the live settings (R157). -/
theorem State.still_judgeSave (p : Port) (s : State) (r : Request) : s.Still (State.judgeSave p s r).state := by
  unfold State.judgeSave
  split
  · refine State.still_judge fun _ => State.still_of_store (s := s) (t := State.beginSave p r.tag s) ?_ rfl rfl rfl rfl rfl
    rintro ⟨live, image, -⟩
    exact ⟨live, image, fun v saved => Option.some.inj saved ▸ live⟩
  · exact s.still_refl

theorem State.still_judgeRestart (p : Port) (s : State) (r : Request) : s.Still (State.judgeRestart p s r).state := by
  unfold State.judgeRestart
  split
  · exact State.still_judge fun _ => State.still_of_eq rfl rfl rfl rfl rfl rfl
  · exact s.still_refl

/-- The roles that SET ROLES takes keep R138. -/
theorem State.still_judgeSetRoles (p : Port) (s : State) (r : Request) : s.Still (State.judgeSetRoles p s r).state := by
  unfold State.judgeSetRoles
  split
  · exact s.still_refl
  next roles _ =>
    refine State.still_judge fun passes => State.still_of_store (s := s) (t := s.writeRoles roles) ?_ rfl rfl rfl rfl rfl
    have passed : Settings.rolesConflict roles = false :=
      passes _ (List.mem_append_right _ (List.mem_singleton.2 rfl))
    have distinct : Settings.rolesDistinct roles = true := by
      simp only [Settings.rolesConflict, Bool.or_eq_false_iff, Bool.not_eq_false'] at passed
      exact passed.1
    rintro ⟨⟨domains, capture, width, -⟩, image, snapshot⟩
    exact ⟨⟨domains, capture, width, distinct⟩, image, snapshot⟩

theorem State.still_judgeSet (p : Port) (s : State) (r : Request) : s.Still (State.judgeSet p s r).state := by
  unfold State.judgeSet
  split
  · split
    · exact s.still_refl
    next k _ =>
      exact State.still_judge fun _ => State.still_writeSettings fun legal => Settings.write_legal legal.1 k _
  · exact s.still_refl

theorem State.still_judgeReload (p : Port) (s : State) (r : Request) : s.Still (State.judgeReload p s r).state := by
  unfold State.judgeReload
  split
  · exact State.still_judge fun _ =>
      (State.still_writeSettings fun legal => legal.2.1).trans (State.still_of_eq (t := s.reload) (by simp [State.reload])
        (by simp [State.reload]) (by simp [State.reload]) (by simp [State.reload]) (by simp [State.reload])
        (by simp [State.reload]))
  · exact s.still_refl

/-! ### Requests on the list, the hold and the claims -/

theorem State.still_judgeAnnotate (p : Port) (s : State) (r : Request) : s.Still (State.judgeAnnotate p s r).state := by
  have write (q : SeqNo) (a : Annotation) (adjusted : Bool) : s.Still (s.annotate p q a adjusted).state := by
    refine State.still_judge fun _ => ?_
    split
    · exact s.still_refl
    · exact State.still_of_eq (s := s) (t := s.updateEntry q _)
  unfold State.judgeAnnotate
  split
  · dsimp only
    split
    · exact write _ _ _
    · exact s.still_refl
  · exact s.still_refl

theorem State.still_judgePlace (p : Port) (s : State) (r : Request) : s.Still (State.judgePlace p s r).state := by
  unfold State.judgePlace
  split
  · exact State.still_judge fun _ => State.still_of_eq (s := s) (t := s.create _ _ _)
  · exact s.still_refl

theorem State.still_judgeStrike (p : Port) (s : State) (r : Request) : s.Still (State.judgeStrike p s r).state := by
  unfold State.judgeStrike
  split
  · refine State.still_judge fun _ => ?_
    split
    · exact s.still_refl
    next e _ => exact State.still_of_eq (t := s.strikeEntry e) (waits := by simp [State.strikeEntry])
  · exact s.still_refl

theorem State.still_judgeTakePassages (p : Port) (s : State) (r : Request) :
    s.Still (State.judgeTakePassages p s r).state := by
  unfold State.judgeTakePassages
  split
  · exact State.still_judge fun _ => State.still_of_eq rfl rfl rfl rfl rfl rfl
  · exact s.still_refl

theorem State.still_judgeFlush (p : Port) (s : State) (r : Request) : s.Still (State.judgeFlush p s r).state := by
  unfold State.judgeFlush
  split
  · exact State.still_judge fun _ => State.still_of_eq rfl rfl rfl rfl rfl rfl
  · exact s.still_refl

theorem State.still_judgeHoldTake (p : Port) (s : State) (r : Request) : s.Still (State.judgeHoldTake p s r).state := by
  unfold State.judgeHoldTake
  split
  · refine State.still_judge fun _ => ?_
    split
    · exact s.still_refl
    next e _ =>
      split
      · exact s.still_refl
      next t _ =>
        refine State.still_of_eq (t := s.standHold e t) (waits := ?_)
        simp only [State.standHold]
        split <;> simp
  · exact s.still_refl

theorem State.still_judgeHoldSet (p : Port) (s : State) (r : Request) : s.Still (State.judgeHoldSet p s r).state := by
  unfold State.judgeHoldSet
  split
  · refine State.still_judge fun _ => ?_
    unfold State.acceptHoldSet
    split
    · exact State.still_of_eq rfl rfl rfl rfl rfl rfl
    · exact s.still_refl
  · exact s.still_refl

theorem State.still_judgeHoldClear (p : Port) (s : State) (r : Request) : s.Still (State.judgeHoldClear p s r).state := by
  unfold State.judgeHoldClear
  split
  · refine State.still_judge fun _ => ?_
    unfold State.acceptHoldClear
    split
    · exact s.still_refl
    · exact State.still_of_eq (t := s.clearHold) (waits := by simp [State.clearHold])
  · exact s.still_refl

theorem State.still_judgeHoldDrop (p : Port) (s : State) (r : Request) : s.Still (State.judgeHoldDrop p s r).state := by
  have drop (force : Bool) : s.Still (s.holdDrop p force).state := by
    refine State.still_judge fun _ => ?_
    unfold State.acceptHoldDrop
    split
    · exact s.still_refl
    next q t _ =>
      refine State.still_of_eq (t := s.dropHold q t force) (waits := ?_)
      simp only [State.dropHold]
      split <;> simp
  unfold State.judgeHoldDrop
  split
  · split
    · exact drop false
    · split
      · exact drop true
      · exact s.still_refl
  · exact s.still_refl

theorem State.still_judgeOnLane {p : Port} {s : State} {onLane : Lane → Reply} (does : ∀ x, s.Still (onLane x).state) :
    s.Still (s.judgeOnLane p onLane).state := by
  unfold State.judgeOnLane
  split
  · exact s.still_refl
  · exact does _

theorem State.still_judgeClaim (p : Port) (s : State) (r : Request) : s.Still (State.judgeClaim p s r).state := by
  unfold State.judgeClaim
  split
  · split
    · refine State.still_judgeOnLane fun x => State.still_judge fun _ => ?_
      split
      · exact s.still_refl
      · exact State.still_of_eq (s := s) (t := s.takeClaim x _) (waits := by simp [State.takeClaim])
    · exact s.still_refl
  · exact s.still_refl

theorem State.still_judgeFinish (p : Port) (s : State) (r : Request) : s.Still (State.judgeFinish p s r).state := by
  unfold State.judgeFinish
  split
  · refine State.still_judgeOnLane fun x => ?_
    unfold State.finish
    split
    next q _ =>
      unfold State.finishClaim
      split
      · exact s.still_refl
      · split
        · exact s.still_refl
        · exact State.still_of_eq (s := s) (t := s.endClaim x q _)
    all_goals exact s.still_refl
  · exact s.still_refl

theorem State.still_judgeWaive (p : Port) (s : State) (r : Request) : s.Still (State.judgeWaive p s r).state := by
  unfold State.judgeWaive
  split
  · refine State.still_judgeOnLane fun x => ?_
    unfold State.waive
    split
    · exact s.still_refl
    · unfold State.waiveEntry
      split
      · split
        · exact State.still_of_eq (s := s) (t := s.endClaim x _ _)
        · exact s.still_refl
      · split
        · exact State.still_of_eq (s := s) (t := s.setStatus _ x _)
        · exact s.still_refl
      all_goals exact s.still_refl
  · exact s.still_refl

theorem State.still_judgeAdopt (p : Port) (s : State) (r : Request) : s.Still (State.judgeAdopt p s r).state := by
  unfold State.judgeAdopt
  split
  · refine State.still_judgeOnLane fun x => ?_
    unfold State.adopt
    split
    · split
      · exact s.still_refl
      · exact State.still_of_eq (s := s) (t := s.setLane x _)
    all_goals exact s.still_refl
  · exact s.still_refl

theorem State.still_judgeClearLane (p : Port) (s : State) (r : Request) : s.Still (State.judgeClearLane p s r).state := by
  have clear (x : Lane) : s.Still (s.clearLane p x).state := by
    refine State.still_judge fun _ => ?_
    show s.Still (s.clearLaneState x)
    unfold State.clearLaneState
    split
    · exact State.still_of_eq
    · exact State.still_of_eq
    · exact s.still_refl
  unfold State.judgeClearLane
  split
  · split
    · exact s.still_refl
    · exact clear _
  · exact s.still_refl

/-! ### Requests on motion and on the freeze state -/

theorem State.still_judgeMove (p : Port) (s : State) (r : Request) : s.Still (State.judgeMove p s r).state := by
  unfold State.judgeMove
  split
  · exact State.still_judge fun _ => State.still_of_eq rfl rfl rfl rfl rfl rfl
  · exact s.still_refl

theorem State.still_judgeStop (p : Port) (s : State) (r : Request) : s.Still (State.judgeStop p s r).state := by
  unfold State.judgeStop
  split
  · refine State.still_judge fun _ => ?_
    show s.Still s.stop
    unfold State.stop
    split
    · exact State.still_of_eq
    · exact s.still_refl
  · exact s.still_refl

theorem State.still_judgeFreeze (p : Port) (s : State) (r : Request) : s.Still (State.judgeFreeze p s r).state := by
  unfold State.judgeFreeze
  split
  · exact State.still_judge fun _ => s.still_handCause _ _ _
  · exact s.still_refl

/-- THAW leaves the freeze record, and with it the further-cause count (R130). -/
theorem State.still_judgeThaw (p : Port) (s : State) (r : Request) : s.Still (State.judgeThaw p s r).state := by
  unfold State.judgeThaw
  split
  · refine State.still_judge fun _ => ?_
    have axis : s.thaw.axis = s.axis := by simp
    have ports : s.thaw.ports = s.ports := by simp
    have store : s.thaw.store = s.store := by simp
    have further : s.thaw.freeze.further = s.freeze.further := by simp [State.thaw]
    refine ⟨fun bounds => ?_, fun legal => ?_, by simp [Reply.answer], by simp [Reply.answer, State.thaw]⟩
    · show s.thaw.inBounds
      rwa [State.inBounds, axis, ports, further]
    · show s.thaw.settingsLegal
      rwa [State.settingsLegal, State.live, store]
  · exact s.still_refl

end Sys2Proof.Machine
end

section
/-! PROOFS. The settings stay legal, the bounds hold, and what waits meets what it waits for. -/

namespace Sys2Proof.Machine

/-! ### Bounds and settings alone -/

/-- From s to t the bounds and the legality of the settings stand where they stood. -/
structure State.Sound (s t : State) : Prop where
  bounds : s.inBounds → t.inBounds
  legal : s.settingsLegal → t.settingsLegal

theorem State.Still.sound {s t : State} (still : s.Still t) : s.Sound t := ⟨still.bounds, still.legal⟩

theorem State.Sound.trans {s t u : State} (first : s.Sound t) (second : t.Sound u) : s.Sound u :=
  ⟨second.bounds ∘ first.bounds, second.legal ∘ first.legal⟩

theorem State.sound_of_eq {s t : State} (axis : t.axis = s.axis := by simp) (ports : t.ports = s.ports := by simp)
    (freeze : t.freeze = s.freeze := by simp) (store : t.store = s.store := by simp) : s.Sound t := by
  refine ⟨fun bounds => ?_, fun legal => ?_⟩
  · rwa [State.inBounds, axis, ports, freeze]
  · rwa [State.settingsLegal, State.live, store]

theorem AxisUnit.inLimit_eq_true (a : Int) : AxisUnit.inLimit a = true ↔ -2147000000 ≤ a ∧ a ≤ 2147000000 := by
  simp [AxisUnit.inLimit]

/-- An axis within its limit is in bounds (R9, R11). -/
theorem State.sound_of_axis {s t : State} (within : AxisUnit.inLimit t.axis.axis = true)
    (ports : t.ports = s.ports := by simp) (freeze : t.freeze = s.freeze := by simp)
    (store : t.store = s.store := by simp) : s.Sound t := by
  refine ⟨fun ⟨_, _, bounded, further⟩ => ?_, fun legal => ?_⟩
  · obtain ⟨low, high⟩ := (AxisUnit.inLimit_eq_true _).1 within
    rw [State.inBounds, ports, freeze]
    exact ⟨low, high, bounded, further⟩
  · rwa [State.settingsLegal, State.live, store]

theorem State.sound_takeRequest {s : State} {p : Port} {code : Byte} {judge : State → Request → Reply}
    (does : ∀ r, (s.popQueue p).Sound (judge (s.popQueue p) r).state) : s.Sound (s.takeRequest p code judge) := by
  unfold State.takeRequest
  split
  · exact s.still_refl.sound
  next r _ =>
    exact (((s.still_popQueue p).sound.trans (does r)).trans (State.still_respond p r _).sound).trans State.sound_of_eq

/-! ### Pulses, edges and the preset -/

theorem State.still_motionWatch (s : State) : s.Still s.motionWatch := by
  unfold State.motionWatch
  split
  · split
    · exact State.still_of_eq
    · exact s.still_refl
  · split
    · split
      · exact s.still_handCause _ _ _
      · exact State.still_of_eq
    · exact s.still_refl

theorem State.still_detectorWatch (s : State) (d : Direction) : s.Still (s.detectorWatch d) := State.still_of_eq

theorem State.sound_axisChange (s : State) (d : Direction) : s.Sound (s.axisChange d) := by
  have turned (P : Prop) [Decidable P] : s.Sound (if P then s.raise .reversed else s) := by
    split
    · exact State.sound_of_eq
    · exact s.still_refl.sound
  have watched (u : State) : u.Sound (((u.detectorWatch u.axis.direction).listWatch).motionWatch) :=
    ((u.still_detectorWatch u.axis.direction).sound.trans State.sound_of_eq).trans (State.still_motionWatch _).sound
  exact (turned _).trans (watched _)

theorem State.sound_takePulse (s : State) : s.Sound s.takePulse := by
  unfold State.takePulse
  dsimp only
  split
  next within => exact (State.sound_of_axis (t := { s with axis := _ }) within).trans (State.sound_axisChange _ _)
  next => exact (s.still_handCause _ _ _).sound

theorem State.sound_sdetEdge (s : State) (active : Bool) : s.Sound (s.sdetEdge active) := by
  unfold State.sdetEdge
  dsimp only
  split
  · exact s.still_refl.sound
  · generalize (if active = true then s.live.sdetPolarity.activeLevel else s.live.sdetPolarity.inactiveLevel) = level
    split
    · exact State.sound_of_eq
    · exact State.sound_of_eq

theorem State.sound_judgeAxisPreset (p : Port) (s : State) (r : Request) :
    s.Sound (State.judgeAxisPreset p s r).state := by
  unfold State.judgeAxisPreset
  split
  · dsimp only
    unfold Reply.judge
    split
    next => exact s.still_refl.sound
    next none_fails =>
      have within := (Operands.lowestRefusal_eq_none_iff _).1 none_fails _ List.mem_cons_self
      rw [Bool.not_eq_false'] at within
      exact State.sound_of_axis (t := s.preset _) within rfl rfl rfl
  · exact s.still_refl.sound

/-! ### Resets (R159, R160) -/

theorem Settings.defaults_legal : Settings.defaults.legal := by
  refine ⟨fun k => ?_, by decide, by decide, by decide⟩
  cases k with
  | defaultNeed x => cases x <;> simp [Setting.domain, Domain.holds, Settings.get, Settings.defaults]
  | laneOffset x => cases x <;> simp [Setting.domain, Domain.holds, Settings.get, Settings.defaults]
  | tdnPolarity x => cases x <;> simp [Setting.domain, Domain.holds, Settings.get, Settings.defaults, Polarity.code]
  | lanesFitted =>
    show (Operands.laneSet (.replicate true) : Int) ∈ ([0, 1, 2, 3, 4, 5, 6, 7, 8, 9, 10, 11, 12, 13, 14, 15] : List Int)
    decide
  | _ =>
    simp [Setting.domain, Domain.holds, Settings.get, Settings.defaults, Polarity.code, DirectionSign.code, EdgeMode.code]

/-- The samples after STARTED hand at most one cause (R127). -/
theorem State.still_started (s : State) : s.Still s.started := by
  have sampled (u : State) : u.Still (if u.frzinActive then u.handCause .line .frzin none else u) := by
    split
    · exact u.still_handCause _ _ _
    · exact u.still_refl
  have sensed : s.Still { s.raise .started with detector := { s.detector with sdetActive := s.sdetLineActive } } :=
    State.still_of_eq (made := rfl)
  exact (sensed.trans (sampled _)).trans
    (State.still_foldl (f := State.remeasure) (fun _ _ => State.still_of_eq) Lane.all _)

theorem State.sound_resetBlocks (s : State) {ports : PerPort PortState} (cause : FreezeCause) (source : FreezeSource)
    (empty : ∀ p, (ports.get p).queue = [] ∧ (ports.get p).keyCount = 0) :
    s.Sound (s.resetBlocks ports cause source) := by
  refine ⟨fun _ => ⟨by simp [State.resetBlocks], by simp [State.resetBlocks], fun p => ?_, Nat.zero_le 15⟩,
    fun ⟨live, image, _⟩ => ⟨live, image, fun v saved => absurd saved (by simp [State.resetBlocks])⟩⟩
  obtain ⟨queue, key⟩ := empty p
  show (ports.get p).queue.length ≤ 4 ∧ (ports.get p).keyCount ≤ 3
  simp [queue, key]

theorem State.sound_stopWrite (s : State) : s.Sound s.stopWrite := by
  unfold State.stopWrite
  split
  · exact s.still_refl.sound
  · exact ⟨id, fun ⟨live, _, _⟩ => ⟨live, Settings.defaults_legal, fun v saved => absurd saved (by simp)⟩⟩

theorem State.sound_fullReset (s : State) : s.Sound s.fullReset := by
  have loaded (u : State) : u.Sound u.loadImage :=
    ⟨id, fun ⟨_, image, _⟩ => ⟨image, image, fun v saved => absurd saved (by simp [State.loadImage])⟩⟩
  have released : s.Sound ({ s with pins := { s.pins with rstn := .high } } : State).stopWrite :=
    State.Sound.trans (t := { s with pins := { s.pins with rstn := .high } }) State.sound_of_eq (State.sound_stopWrite _)
  have reset (u : State) (e : Option Event) :
      u.Sound ((u.resetBlocks (.replicate PortState.reset) .start .nowhere).raise? e).started :=
    ((u.sound_resetBlocks (ports := .replicate PortState.reset) .start .nowhere fun p => by simp [PortState.reset]).trans State.sound_of_eq).trans
      (State.still_started _).sound
  exact (released.trans (loaded _)).trans (reset _ _)

theorem State.sound_takeRestart (s : State) (p : Port) : s.Sound (s.takeRestart p) :=
  (s.sound_resetBlocks (ports := s.ports.map PortState.restarted) .restart (.port p)
      fun i => by simp [PortState.restarted, PortState.reset]).trans
    (State.still_started _).sound

/-! ### The other commands -/

theorem State.still_receiveBytes (s : State) (p : Port) (bs : List RxByte) : s.Still (s.receiveBytes p bs) := by
  have refreshed (u : State) : u.Still (u.refreshPresence p) := by
    unfold State.refreshPresence
    split
    · exact u.still_updatePort p fun v bounded => bounded
    · exact (u.still_updatePort p (f := fun v => { v with presence := .present 0 }) fun v bounded => bounded).trans
        State.still_of_eq
  have queued (u : State) (r : Request) : u.Still (u.enqueue p r) := by
    unfold State.enqueue
    split
    next room =>
      refine State.still_of_ports fun i ⟨queue, key⟩ => ?_
      show ((u.ports.modify p fun v => { v with queue := v.queue ++ [r] }).get i).bounded
      rw [PerPort.get_modify]
      split
      next here =>
        have length : ((u.ports.get p).queue ++ [r]).length = (u.ports.get p).queue.length + 1 := by
          rw [List.length_append, List.length_singleton]
        rw [here] at key
        exact ⟨Nat.le_trans (Nat.le_of_eq length) room, key⟩
      next => exact ⟨queue, key⟩
    next =>
      exact (u.still_updatePort p (f := fun v => { v with overruns := v.overruns.rise }) fun v bounded => bounded).trans
        State.still_of_eq
  refine State.still_foldl (fun u b => ?_) bs s
  have read (w : State) (rx : RxState) : w.Still (w.updatePort p fun v => { v with rx := rx }) :=
    w.still_updatePort p fun v bounded => bounded
  unfold State.receiveByte
  dsimp only
  split
  · exact read u _
  · exact (read u _).trans
      (State.still_updatePort _ p (f := fun v => { v with frameErrors := v.frameErrors.rise }) fun v bounded => bounded)
  · exact (read u _).trans ((refreshed _).trans (queued _ _))

theorem State.still_idle (s : State) : s.Still s.idle := by
  unfold State.idle
  split
  · exact s.still_refl
  · refine ⟨fun ⟨low, high, bounded, further⟩ => ⟨low, high, fun p => ?_, further⟩, fun ⟨live, image, snapshot⟩ => ?_,
      rfl, rfl⟩
    · show ((s.ports.map PortState.advance).get p).bounded
      rw [PerPort.get_map]
      exact bounded p
    · refine ⟨live, image, fun v saved => ?_⟩
      obtain ⟨w, before, rfl⟩ := Option.map_eq_some_iff.1 saved
      exact snapshot w before

theorem State.still_sendStatus (s : State) (p : Port) (f : TxFrame) : s.Still (s.sendStatus p f) :=
  s.still_updatePort p fun v bounded => by
    cases v with | mk _ _ _ _ _ _ sending _ _ => cases sending <;> exact bounded

theorem State.still_expireStatus (s : State) (p : Port) : s.Still (s.expireStatus p) := by
  unfold State.expireStatus
  split
  · exact State.still_of_eq
  · exact State.Still.trans (t := s.updateEvents p _) State.still_of_eq (State.still_sendStatus _ _ _)

/-- The image that a save writes gives back its snapshot (R157). -/
theorem State.still_completeSave (s : State) : s.Still s.completeSave := by
  unfold State.completeSave
  split
  · exact s.still_refl
  next v saved =>
    refine State.Still.trans
      (t := { s with store := { s.store with image := .ofSettings v.snapshot, save := none } }) ?_
      (State.still_sendResponse _ _ _)
    refine State.still_of_store fun ⟨live, _, snapshot⟩ => ⟨live, ?_, fun w none_saved => absurd none_saved (by simp)⟩
    have legal := snapshot v saved
    show (StoreImage.ofSettings v.snapshot).settings.legal
    rwa [StoreImage.settings_ofSettings legal]

theorem State.still_frameSent (s : State) (p : Port) (f : TxFrame) : s.Still ((s.noteRestartSent f).nextFrame p) := by
  have noted : s.Still (s.noteRestartSent f) := by
    unfold State.noteRestartSent
    split
    · exact State.still_of_eq
    · exact s.still_refl
  have next (u : State) : u.Still (u.nextFrame p) :=
    State.Still.trans (t := u.updatePort p _)
      (u.still_updatePort p fun v bounded => by
        obtain ⟨-, queue, key⟩ := v.sendNext_keeps
          (if (u.ports.get p).response.isSome && (u.ports.get p).status.isSome then Config.statusFirst u.freeCount else false)
        rwa [PortState.bounded, queue, key])
      (State.still_of_eq rfl rfl rfl rfl rfl rfl)
  exact noted.trans (next _)

theorem State.still_holdReset (s : State) : s.Still s.holdReset := by
  have cut : s.Still { s with pins := { s.pins with rstn := .low }, ports := s.ports.map PortState.cutOff } :=
    State.still_of_ports fun p bounded => by simpa [PortState.cutOff, PortState.bounded] using bounded
  have stopped (u : State) : u.Still u.stopWrite := by
    refine ⟨u.sound_stopWrite.bounds, u.sound_stopWrite.legal, ?_, ?_⟩ <;>
      unfold State.stopWrite <;> split <;> rfl
  exact cut.trans (stopped _)

/-- The command does not bring what waits for it, and nothing begins to wait with it. -/
def Flags.isPlain : Instr → Bool
  | .pulse _ => false
  | .activeEdge => false
  | .inactiveEdge => false
  | .axisPreset _ => false
  | .fullReset => false
  | .restartTakesEffect => false
  | _ => true

theorem still_of_takeRequest {s t : State} {p : Port} {code : Byte} {judge : State → Request → Reply}
    (ran : (.next (s.takeRequest p code judge) : Host.Outcome State Fault Refusal) = .next t)
    (does : ∀ (u : State) r, u.Still (judge u r).state) : s.Still t :=
  Host.Outcome.next.inj ran ▸ State.still_takeRequest fun r => does _ r

/-- A command that acts when its condition holds, and otherwise changes nothing. -/
theorem still_of_guarded {s t u : State} {c : Bool}
    (ran : (.next (if c then u else s) : Host.Outcome State Fault Refusal) = .next t) (does : s.Still u) : s.Still t := by
  rw [← Host.Outcome.next.inj ran]
  split
  · exact does
  · exact s.still_refl

theorem still_of_timerEnd {s t u : State} {c : Bool}
    (ran : (.next (if c then u.settle else s) : Host.Outcome State Fault Refusal) = .next t) (does : s.Still u) :
    s.Still t :=
  still_of_guarded ran (does.trans (State.still_settle _))

/-- A plain command keeps the bounds, the legality of the settings and what waits. -/
theorem exec_still {c : Instr} (plain : Flags.isPlain c = true) {s t : State} (ran : exec c s = .next t) : s.Still t := by
  cases c with
  | pulse | activeEdge | inactiveEdge | axisPreset | fullReset | restartTakesEffect =>
    simp [Flags.isPlain] at plain
  | tdnLineChange x level =>
    simp only [exec, execTdnLineChange] at ran
    split at ran
    · exact Host.Outcome.next.inj ran ▸ s.still_refl
    · rw [← Host.Outcome.next.inj ran]
      split <;> exact State.still_of_eq
  | assertion x => exact still_of_timerEnd ran (s.still_takeDebounced x)
  | release x => exact still_of_timerEnd ran (s.still_takeDebounced x)
  | downTimerExpiry x => exact still_of_timerEnd ran (s.still_expireDown x)
  | liftTimerExpiry => exact still_of_timerEnd ran State.still_of_eq
  | overdueTimerExpiry => exact still_of_timerEnd ran s.still_expireOverdue
  | presenceTimerExpiry p => exact still_of_timerEnd ran (s.still_expirePresence p)
  | statusTimerExpiry p => exact still_of_guarded ran (s.still_expireStatus p)
  | saveWriteComplete => exact still_of_guarded ran s.still_completeSave
  | validFrame p body =>
    rw [← Host.Outcome.next.inj ran]
    split
    · exact s.still_refl
    · exact (s.still_receiveBytes p _).trans (State.still_settle _)
  | discardedFrame p bytes =>
    rw [← Host.Outcome.next.inj ran]
    split
    · exact s.still_refl
    · exact (s.still_receiveBytes p bytes).trans (State.still_settle _)
  | frameSent p =>
    rw [← Host.Outcome.next.inj ran]
    split
    · exact s.still_frameSent p _
    · exact s.still_refl
  | unknownCode p =>
    rw [← Host.Outcome.next.inj ran]
    split
    · exact s.still_refl
    next r _ =>
      exact ((s.still_popQueue p).trans (State.still_respond p r (Reply.refuse (s.popQueue p) .malformed))).trans
        (State.still_settle _)
  | frzinAssertion =>
    simp only [exec, execFrzinAssertion] at ran
    split at ran
    · exact Host.Outcome.next.inj ran ▸ s.still_refl
    · rw [← Host.Outcome.next.inj ran]
      split
      · exact State.still_of_eq
      · exact (State.Still.trans (t := { s with pins := { s.pins with frzin := .low } }) State.still_of_eq
          (State.still_handCause _ _ _ _)).trans (State.still_settle _)
  | frzinRelease => exact Host.Outcome.next.inj ran ▸ State.still_of_eq
  | rstnAssertion =>
    rw [← Host.Outcome.next.inj ran]
    split
    · exact s.still_refl
    · exact s.still_holdReset.trans (State.still_settle _)
  | present p => exact still_of_takeRequest ran (State.still_judgePresent p)
  | readState p => exact still_of_takeRequest ran State.still_judgeReadState
  | readEvents p => exact still_of_takeRequest ran (State.still_judgeReadEvents p)
  | eventMask p => exact still_of_takeRequest ran (State.still_judgeEventMask p)
  | statusInterval p => exact still_of_takeRequest ran (State.still_judgeStatusInterval p)
  | readEntry p => exact still_of_takeRequest ran (State.still_judgeReadEntry p)
  | readRegister p => exact still_of_takeRequest ran (State.still_judgeReadRegister p)
  | readPassages p => exact still_of_takeRequest ran (State.still_judgeReadPassages p)
  | readCounters p => exact still_of_takeRequest ran (State.still_judgeReadCounters p)
  | readSetting p => exact still_of_takeRequest ran (State.still_judgeReadSetting p)
  | readFault p => exact still_of_takeRequest ran (State.still_judgeReadFault p)
  | freeze p => exact still_of_takeRequest ran (State.still_judgeFreeze p)
  | key p => exact still_of_takeRequest ran (State.still_judgeKey p)
  | annotate p => exact still_of_takeRequest ran (State.still_judgeAnnotate p)
  | place p => exact still_of_takeRequest ran (State.still_judgePlace p)
  | strike p => exact still_of_takeRequest ran (State.still_judgeStrike p)
  | takePassages p => exact still_of_takeRequest ran (State.still_judgeTakePassages p)
  | holdTake p => exact still_of_takeRequest ran (State.still_judgeHoldTake p)
  | holdSet p => exact still_of_takeRequest ran (State.still_judgeHoldSet p)
  | holdDrop p => exact still_of_takeRequest ran (State.still_judgeHoldDrop p)
  | holdClear p => exact still_of_takeRequest ran (State.still_judgeHoldClear p)
  | claim p => exact still_of_takeRequest ran (State.still_judgeClaim p)
  | finish p => exact still_of_takeRequest ran (State.still_judgeFinish p)
  | waive p => exact still_of_takeRequest ran (State.still_judgeWaive p)
  | adopt p => exact still_of_takeRequest ran (State.still_judgeAdopt p)
  | clearLane p => exact still_of_takeRequest ran (State.still_judgeClearLane p)
  | move p => exact still_of_takeRequest ran (State.still_judgeMove p)
  | stop p => exact still_of_takeRequest ran (State.still_judgeStop p)
  | set p => exact still_of_takeRequest ran (State.still_judgeSet p)
  | setRoles p => exact still_of_takeRequest ran (State.still_judgeSetRoles p)
  | thaw p => exact still_of_takeRequest ran (State.still_judgeThaw p)
  | save p => exact still_of_takeRequest ran (State.still_judgeSave p)
  | reload p => exact still_of_takeRequest ran (State.still_judgeReload p)
  | restart p => exact still_of_takeRequest ran (State.still_judgeRestart p)
  | flush p => exact still_of_takeRequest ran (State.still_judgeFlush p)

/-- Every command keeps the bounds and the legality of the settings. -/
theorem exec_sound {c : Instr} {s t : State} (ran : exec c s = .next t) : s.Sound t := by
  cases c with
  | pulse odb =>
    rw [← Host.Outcome.next.inj ran]
    split
    · exact State.sound_of_eq
    · exact (State.Sound.trans (t := { s with pins := { s.pins with odb := odb } }) State.sound_of_eq
        (State.sound_takePulse _)).trans State.sound_of_eq
  | activeEdge => exact Host.Outcome.next.inj ran ▸ (s.sound_sdetEdge true).trans State.sound_of_eq
  | inactiveEdge => exact Host.Outcome.next.inj ran ▸ (s.sound_sdetEdge false).trans State.sound_of_eq
  | axisPreset p =>
    exact Host.Outcome.next.inj ran ▸
      (State.sound_takeRequest (p := p) (code := 0x37) fun r => State.sound_judgeAxisPreset p _ r).trans State.sound_of_eq
  | fullReset => exact Host.Outcome.next.inj ran ▸ s.sound_fullReset.trans State.sound_of_eq
  | restartTakesEffect =>
    rw [← Host.Outcome.next.inj ran]
    split
    · exact s.still_refl.sound
    next v _ => exact (s.sound_takeRestart v.port).trans State.sound_of_eq
  | _ => exact (exec_still rfl ran).sound

theorem step_sound {s t : State} (ran : step s = .next t) : s.Sound t := by
  unfold step at ran
  split at ran
  · exact Host.Outcome.next.inj ran ▸ s.still_idle.sound
  next c rest _ => exact State.Sound.trans (t := { s with pending := rest }) State.sound_of_eq (exec_sound ran)

/-- Settles O57: the store changes by legal writes, and an image gives back the legal settings it was written from. -/
theorem settingsStayLegal : Obligations.SettingsStayLegal := fun _ _ before ran => (step_sound ran).legal before

/-- Settles O58: every move keeps the counts, and every command keeps the bounds. -/
theorem countersAgree : Obligations.CountersAgree :=
  ⟨fun _ _ => step_keeps_countsAgree, fun _ _ before ran => (step_sound ran).bounds before⟩

end Sys2Proof.Machine
end

section
/-! PROOFS. A candidate that waits meets its preset, and an axis change that waits meets its edge (R13, R31). -/

namespace Sys2Proof.Machine

/-! ### A candidate that waits -/

theorem State.presetBehind_eq_true {s : State} (behind : s.presetBehind = true) :
    ∃ p rest, s.pending = Instr.axisPreset p :: rest := by
  unfold State.presetBehind at behind
  split at behind
  next p rest pending => exact ⟨p, rest, pending⟩
  next => simp at behind

/-- A candidate begins to wait only where an AXIS PRESET comes next (R13). -/
theorem State.makeCandidate_made (s : State) (c : Candidate) :
    (s.makeCandidate c).detector.made = s.detector.made ∨ s.presetBehind = true := by
  unfold State.makeCandidate
  split
  next behind => exact .inr behind
  next => exact .inl (by simp)

theorem State.takeEdge_made (s : State) (active : Bool) :
    (s.takeEdge active).detector.made = s.detector.made ∨ s.presetBehind = true := by
  have activeEdge (u : State) : u.takeActiveEdge.detector.made = u.detector.made ∨ u.presetBehind = true := by
    unfold State.takeActiveEdge
    split
    · exact u.makeCandidate_made _
    · exact .inl rfl
    · exact .inl rfl
  have inactiveEdge (u : State) : u.takeInactiveEdge.detector.made = u.detector.made ∨ u.presetBehind = true := by
    unfold State.takeInactiveEdge
    split
    · exact .inl rfl
    · exact u.makeCandidate_made _
    · split
      · exact .inl rfl
      · unfold State.closeInFlight
        dsimp only
        split
        · exact .inl rfl
        · exact u.dropInFlight.makeCandidate_made _
  unfold State.takeEdge
  dsimp only
  split
  · exact .inl rfl
  · split
    · exact activeEdge { s with detector := { s.detector with sdetActive := active } }
    · exact inactiveEdge { s with detector := { s.detector with sdetActive := active } }

/-- An edge command finds its line at the level already, or changes it while RSTN is held, or has the edge taken. -/
theorem State.sdetEdge_cases (s : State) (active : Bool) :
    s.sdetEdge active = s ∨ ∃ level,
      (s.inReset = true ∧ s.sdetEdge active = { s with pins := { s.pins with sdet := level } }) ∨
      (s.inReset = false ∧
        s.sdetEdge active = (({ s with pins := { s.pins with sdet := level } } : State).takeEdge active).settle) := by
  unfold State.sdetEdge
  dsimp only
  split
  · exact .inl rfl
  · generalize (if active = true then s.live.sdetPolarity.activeLevel else s.live.sdetPolarity.inactiveLevel) = level
    refine .inr ⟨level, ?_⟩
    split
    next held => exact .inl ⟨held, rfl⟩
    next released => exact .inr ⟨Bool.not_eq_true _ ▸ released, rfl⟩

/-- An edge makes a candidate wait only while RSTN is released and where an AXIS PRESET comes next (R13, R159). -/
theorem State.sdetEdge_made (s : State) (active : Bool) :
    (s.sdetEdge active).detector.made = s.detector.made ∨ (s.inReset = false ∧ s.presetBehind = true) := by
  rcases s.sdetEdge_cases active with same | ⟨level, ⟨-, held⟩ | ⟨released, taken⟩⟩
  · exact .inl (by rw [same])
  · exact .inl (by rw [held])
  · rw [taken]
    exact (State.takeEdge_made { s with pins := { s.pins with sdet := level } } active).imp_right
      fun behind => ⟨released, behind⟩

/-- An edge leaves what is next to come, and RSTN. -/
theorem State.sdetEdge_keeps (s : State) (active : Bool) :
    (s.sdetEdge active).pending = s.pending ∧ (s.sdetEdge active).inReset = s.inReset := by
  rcases s.sdetEdge_cases active with same | ⟨level, ⟨-, held⟩ | ⟨-, taken⟩⟩
  · rw [same]
    exact ⟨rfl, rfl⟩
  · rw [held]
    exact ⟨rfl, rfl⟩
  · rw [taken]
    simp [State.inReset, State.settle]

theorem State.takeChange_inReset (s : State) : s.takeChange.inReset = s.inReset := by
  unfold State.takeChange
  split
  · rfl
  · rfl
  · simp [State.inReset, State.settle]

/-- The candidate that waits is offered with the preset that has been taken, unless RSTN is held (R13). -/
theorem State.offerMade_made (s : State) : s.offerMade.detector.made = none ∨ s.inReset = true := by
  unfold State.offerMade
  split
  next held => exact .inr held
  next none_made => exact .inl none_made
  next => exact .inl (by simp)

/-- AXIS PRESET leaves a candidate that waits, an axis change that waits, and RSTN. -/
theorem State.takeRequest_axisPreset_keeps (s : State) (p : Port) :
    (s.takeRequest p 0x37 (State.judgeAxisPreset p)).detector.made = s.detector.made ∧
      (s.takeRequest p 0x37 (State.judgeAxisPreset p)).list.changeWaits = s.list.changeWaits ∧
      (s.takeRequest p 0x37 (State.judgeAxisPreset p)).inReset = s.inReset := by
  have judged (u : State) (r : Request) : (State.judgeAxisPreset p u r).state.detector.made = u.detector.made ∧
      (State.judgeAxisPreset p u r).state.list.changeWaits = u.list.changeWaits ∧
      (State.judgeAxisPreset p u r).state.pins = u.pins := by
    unfold State.judgeAxisPreset
    split
    · dsimp only
      unfold Reply.judge
      split <;> exact ⟨rfl, rfl, rfl⟩
    · exact ⟨rfl, rfl, rfl⟩
  have responded (r : Request) (a : Reply) : (State.respond p r a).pins = a.state.pins := by
    unfold State.respond
    split <;> rfl
  unfold State.takeRequest
  split
  · exact ⟨rfl, rfl, rfl⟩
  next r _ =>
    obtain ⟨made, waits, pins⟩ := judged (s.popQueue p) r
    have still := State.still_respond p r (State.judgeAxisPreset p (s.popQueue p) r)
    have rstn := congrArg Pins.rstn ((responded r (State.judgeAxisPreset p (s.popQueue p) r)).trans pins)
    refine ⟨still.made.trans made, still.waits.trans waits, ?_⟩
    show decide ((State.respond p r _).pins.rstn = .low) = decide (s.pins.rstn = .low)
    rw [rstn]
    rfl

/-- A pulse leaves a candidate that waits. -/
theorem State.takePulse_made (s : State) : s.takePulse.detector.made = s.detector.made := by
  unfold State.takePulse
  dsimp only
  split
  · unfold State.axisChange
    dsimp only
    split <;> simp
  · simp

/-- No candidate waits after a step unless an AXIS PRESET comes next. -/
theorem step_candidateMeets {s t : State} (meets : s.candidateMeets) (ran : step s = .next t) : t.candidateMeets := by
  unfold step at ran
  split at ran
  next empty =>
    intro waits
    rw [← Host.Outcome.next.inj ran, s.still_idle.made] at waits
    obtain ⟨-, p, rest, pending⟩ := meets waits
    simp [empty] at pending
  next c rest pending =>
    /- Where a candidate waits the command is the preset, which offers it; other commands start with none waiting. -/
    have none_waits (other : ∀ p, c ≠ .axisPreset p) : s.detector.made = none := by
      refine Classical.byContradiction fun waits => ?_
      obtain ⟨-, p, rest', front⟩ := meets waits
      exact other p (List.cons.inj (pending.symm.trans front)).1
    have edge (active : Bool) (none_made : s.detector.made = none)
        (t_eq : (({ s with pending := rest } : State).sdetEdge active).takeChange = t) : t.candidateMeets := by
      intro waits
      obtain ⟨queue, reset⟩ := State.sdetEdge_keeps { s with pending := rest } active
      rcases State.sdetEdge_made { s with pending := rest } active with same | ⟨released, behind⟩
      · rw [← t_eq] at waits
        simp only [State.takeChange_keeps] at waits
        exact absurd (same.trans none_made) waits
      · obtain ⟨p, rest', next⟩ := State.presetBehind_eq_true behind
        rw [← t_eq, State.takeChange_inReset, reset]
        refine ⟨released, p, rest', ?_⟩
        simp only [State.takeChange_keeps, queue]
        exact next
    cases c with
    | axisPreset p =>
      intro waits
      rw [← Host.Outcome.next.inj ran] at waits
      obtain ⟨made, -, reset⟩ := State.takeRequest_axisPreset_keeps { s with pending := rest } p
      rcases State.offerMade_made (({ s with pending := rest } : State).takeRequest p 0x37 (State.judgeAxisPreset p)) with
        offered | held
      · exact absurd offered waits
      · rw [State.offerMade_of_reset held, made] at waits
        obtain ⟨released, -⟩ := meets waits
        exact absurd (held.symm.trans (reset.trans released)) (by simp)
    | activeEdge => exact edge true (none_waits fun p => by simp) (Host.Outcome.next.inj ran)
    | inactiveEdge => exact edge false (none_waits fun p => by simp) (Host.Outcome.next.inj ran)
    | pulse odb =>
      intro waits
      refine absurd ?_ waits
      rw [← Host.Outcome.next.inj ran]
      split
      · exact none_waits fun p => by simp
      · exact (State.takePulse_made _).trans (none_waits fun p => by simp)
    | fullReset =>
      intro waits
      refine absurd ?_ waits
      rw [← Host.Outcome.next.inj ran]
      exact (State.still_started _).made.trans (by simp [State.resetBlocks])
    | restartTakesEffect =>
      intro waits
      refine absurd ?_ waits
      rw [← Host.Outcome.next.inj ran]
      split
      · exact none_waits fun p => by simp
      · exact (State.still_started _).made
    | _ => exact fun waits => absurd ((exec_still rfl ran).made.trans (none_waits fun p => by simp)) waits

/-! ### An axis change that waits -/

theorem State.edgeBehind_eq_true {s : State} (behind : s.edgeBehind = true) :
    ∃ edge rest, (edge = Instr.activeEdge ∨ edge = .inactiveEdge) ∧ s.pending = edge :: rest := by
  unfold State.edgeBehind at behind
  split at behind
  next rest pending => exact ⟨_, rest, .inl rfl, pending⟩
  next rest pending => exact ⟨_, rest, .inr rfl, pending⟩
  next => simp at behind

theorem State.listWatch_changeWaits (s : State) :
    s.listWatch.list.changeWaits = s.list.changeWaits ∨ s.edgeBehind = true := by
  by_cases behind : s.edgeBehind = true
  · exact .inr behind
  · exact .inl (by rw [State.listWatch_alone (Bool.not_eq_true _ ▸ behind), State.retire_changeWaits])

/-- An axis change begins to wait only where an edge comes next (R31). -/
theorem State.takePulse_changeWaits (s : State) :
    s.takePulse.list.changeWaits = s.list.changeWaits ∨ s.edgeBehind = true := by
  have watched (u : State) (same : u.list = s.list) (queue : u.pending = s.pending) :
      ((u.detectorWatch u.axis.direction).listWatch.motionWatch).list.changeWaits = s.list.changeWaits ∨
        s.edgeBehind = true := by
    refine ((u.detectorWatch u.axis.direction).listWatch_changeWaits).imp (fun kept => ?_) fun behind => ?_
    · simp only [State.motionWatch_keeps, kept, State.detectorWatch_keeps, same]
    · simpa [State.edgeBehind, queue] using behind
  unfold State.takePulse
  dsimp only
  split
  · unfold State.axisChange
    dsimp only
    split
    · exact watched _ rfl rfl
    · exact watched _ rfl rfl
  · exact .inl (by simp)

/-- A pulse leaves what is next to come, and the lines. -/
theorem State.takePulse_keeps (s : State) : s.takePulse.pending = s.pending ∧ s.takePulse.pins = s.pins := by
  unfold State.takePulse
  dsimp only
  split <;> simp

theorem State.sdetEdge_changeWaits (s : State) (active : Bool) :
    (s.sdetEdge active).list.changeWaits = s.list.changeWaits := by
  have candidate (u : State) (c : Candidate) : (u.makeCandidate c).list.changeWaits = u.list.changeWaits := by
    unfold State.makeCandidate
    dsimp only
    split
    · split
      · rfl
      · simp
    · simp
  have edge (u : State) : (u.takeEdge active).list.changeWaits = u.list.changeWaits := by
    unfold State.takeEdge State.takeActiveEdge State.takeInactiveEdge State.closeInFlight
    dsimp only
    split
    · rfl
    · split
      · split
        · exact candidate _ _
        · rfl
        · rfl
      · split
        · rfl
        · exact candidate _ _
        · split
          · rfl
          · split
            · simp
            · exact candidate _ _
  rcases s.sdetEdge_cases active with same | ⟨level, ⟨-, held⟩ | ⟨-, taken⟩⟩
  · rw [same]
  · rw [held]
  · rw [taken]
    exact edge _

/-- The axis change that waits is taken with its edge, unless RSTN is held (R31). -/
theorem State.takeChange_changeWaits (s : State) : s.takeChange.list.changeWaits = false ∨ s.inReset = true := by
  unfold State.takeChange
  split
  next held => exact .inr held
  next none_waits => exact .inl none_waits
  next => exact .inl (by simp)

/-- A candidate offered leaves an axis change that waits. -/
theorem State.offerMade_changeWaits (s : State) : s.offerMade.list.changeWaits = s.list.changeWaits := by
  unfold State.offerMade
  split
  · rfl
  · rfl
  · simp

/-- No axis change waits after a step unless an edge comes next. -/
theorem step_changeMeets {s t : State} (meets : s.changeMeets) (ran : step s = .next t) : t.changeMeets := by
  unfold step at ran
  split at ran
  next empty =>
    intro waits
    rw [← Host.Outcome.next.inj ran, s.still_idle.waits] at waits
    obtain ⟨-, edge, rest, -, pending⟩ := meets waits
    simp [empty] at pending
  next c rest pending =>
    have none_waits (other : c ≠ .activeEdge ∧ c ≠ .inactiveEdge) : s.list.changeWaits = false := by
      refine Bool.eq_false_iff.2 fun waits => ?_
      obtain ⟨-, edge, rest', is_edge, front⟩ := meets waits
      have same : c = edge := (List.cons.inj (pending.symm.trans front)).1
      exact is_edge.elim (fun active => other.1 (same.trans active)) fun inactive => other.2 (same.trans inactive)
    have of_none (none_after : t.list.changeWaits = false) : t.changeMeets :=
      fun waits => absurd (none_after.symm.trans waits) (by simp)
    have edge (active : Bool) (t_eq : (({ s with pending := rest } : State).sdetEdge active).takeChange = t) :
        t.changeMeets := by
      obtain ⟨-, reset⟩ := State.sdetEdge_keeps { s with pending := rest } active
      rcases State.takeChange_changeWaits (({ s with pending := rest } : State).sdetEdge active) with taken | held
      · exact of_none (t_eq ▸ taken)
      · rw [State.takeChange_of_reset held] at t_eq
        intro waits
        rw [← t_eq, State.sdetEdge_changeWaits] at waits
        obtain ⟨released, -⟩ := meets waits
        exact absurd (held.symm.trans (reset.trans released)) (by simp)
    cases c with
    | activeEdge => exact edge true (Host.Outcome.next.inj ran)
    | inactiveEdge => exact edge false (Host.Outcome.next.inj ran)
    | axisPreset p =>
      refine of_none ?_
      rw [← Host.Outcome.next.inj ran, State.offerMade_changeWaits,
        (State.takeRequest_axisPreset_keeps { s with pending := rest } p).2.1]
      exact none_waits (by simp)
    | pulse odb =>
      have before := none_waits (by simp)
      have t_eq := Host.Outcome.next.inj ran
      split at t_eq
      next => exact of_none (t_eq ▸ before)
      next released =>
        intro waits
        rcases State.takePulse_changeWaits
          { ({ s with pending := rest } : State) with pins := { s.pins with odb := odb } } with kept | behind
        · exact of_none (t_eq ▸ kept.trans before) waits
        · obtain ⟨edge, rest', is_edge, next⟩ := State.edgeBehind_eq_true behind
          refine ⟨?_, edge, rest', is_edge, ?_⟩
          · have kept := congrArg Pins.rstn (State.takePulse_keeps
              { ({ s with pending := rest } : State) with pins := { s.pins with odb := odb } }).2
            rw [← t_eq]
            exact (congrArg (fun l => decide (l = Level.low)) kept).trans (Bool.not_eq_true _ ▸ released)
          · rw [← t_eq]
            exact (State.takePulse_keeps _).1.trans next
    | fullReset =>
      refine of_none ?_
      rw [← Host.Outcome.next.inj ran]
      exact (State.still_started _).waits.trans (by simp [State.resetBlocks])
    | restartTakesEffect =>
      refine of_none ?_
      rw [← Host.Outcome.next.inj ran]
      split
      · exact none_waits (by simp)
      · exact (State.still_started _).waits
    | _ => exact of_none ((exec_still rfl ran).waits.trans (none_waits (by simp)))

/-- Settles O59. -/
theorem waitingCandidateMeetsItsPreset : Obligations.WaitingCandidateMeetsItsPreset :=
  ⟨fun _ _ => step_candidateMeets, fun _ _ => step_changeMeets⟩

end Sys2Proof.Machine
end

section
/-! PROOFS. A step takes the front command, or lets one millisecond pass and queues what is due; and the invariants hold at
reset. -/

namespace Sys2Proof.Machine

/-- Settles O1. -/
theorem stepTakesTheFrontCommand : Obligations.StepTakesTheFrontCommand := by
  intro c rest s pending
  rw [step, pending]

/-! ### The invariants at reset -/

theorem State.reset_lane (x : Lane) : (State.reset.lane x).state = .idle := by cases x <;> rfl

theorem State.reset_offUnfitted : State.reset.offUnfitted := by
  intro x
  have fitted : State.reset.isFitted x = true := by cases x <;> rfl
  simp [State.reset_lane, fitted]

theorem State.reset_claimsHold : State.reset.claimsHold := by
  refine ⟨Nat.zero_le 48, List.nodup_nil, State.reset_offUnfitted, fun x q named => ?_,
    fun x e held => absurd held List.not_mem_nil⟩
  simp [State.reset_lane, LaneState.named?] at named

theorem State.reset_squeezesHold : State.reset.squeezesHold := by
  refine ⟨State.reset_claimsHold, fun x => ?_, fun e held => absurd held List.not_mem_nil,
    fun r held => absurd held List.not_mem_nil, fun x q tines => ?_⟩
  · cases x <;> rfl
  · have up : (State.reset.lane x).tdnActive = false := by cases x <;> rfl
    exact absurd (up.symm.trans tines) (by simp)

theorem State.reset_holdStands : State.reset.holdStands := by
  refine ⟨fun q named => (nomatch named), fun x q ms down => ?_⟩
  simp [State.reset_lane] at down

/-- The blank image gives the defaults (R158). -/
theorem State.reset_settingsLegal : State.reset.settingsLegal := by
  have blank : (StoreImage.bytes (List.replicate 256 0xFF)).judge = .blank := by decide +kernel
  have image : State.reset.store.image.settings = Settings.defaults := by
    show (StoreImage.bytes (List.replicate 256 0xFF)).settings = _
    simp only [StoreImage.settings, blank]
  exact ⟨Settings.defaults_legal, image.symm ▸ Settings.defaults_legal, fun v saved => nomatch saved⟩

theorem State.reset_inBounds : State.reset.inBounds := by
  refine ⟨by decide, by decide, fun p => ?_, Nat.zero_le 15⟩
  cases p <;> decide

theorem State.reset_linesFollow : State.reset.linesFollow := by
  refine State.reset.linesFollow_iff.2 ⟨fun x => ?_, rfl, rfl⟩
  cases x <;> rfl

/-- Settles O60. -/
theorem invariantsHoldAtReset : Obligations.InvariantsHoldAtReset :=
  ⟨State.reset_linesFollow, State.reset_squeezesHold, State.reset_holdStands,
    ⟨State.reset_offUnfitted, fun granted => absurd granted (by decide)⟩, ⟨rfl, rfl, Nat.zero_le 32⟩,
    ⟨Nat.zero_le 48, List.nodup_nil, List.Pairwise.nil⟩, State.reset_settingsLegal, State.reset_inBounds,
    fun waits => absurd rfl waits, fun waits => absurd waits (by decide), State.reset_claimsHold⟩

/-! ### What is due -/

/-- The port whose request a command takes. -/
def Flags.requestPort? : Instr → Option Port
  | .unknownCode p => some p
  | .present p => some p
  | .readState p => some p
  | .readEvents p => some p
  | .eventMask p => some p
  | .statusInterval p => some p
  | .readEntry p => some p
  | .readRegister p => some p
  | .readPassages p => some p
  | .readCounters p => some p
  | .readSetting p => some p
  | .readFault p => some p
  | .freeze p => some p
  | .key p => some p
  | .annotate p => some p
  | .place p => some p
  | .strike p => some p
  | .takePassages p => some p
  | .holdTake p => some p
  | .holdSet p => some p
  | .holdDrop p => some p
  | .holdClear p => some p
  | .claim p => some p
  | .finish p => some p
  | .waive p => some p
  | .adopt p => some p
  | .clearLane p => some p
  | .move p => some p
  | .stop p => some p
  | .set p => some p
  | .setRoles p => some p
  | .thaw p => some p
  | .save p => some p
  | .reload p => some p
  | .restart p => some p
  | .flush p => some p
  | .axisPreset p => some p
  | _ => none

theorem Request.command?_port {p : Port} {code : Byte} {c : Instr} (known : Request.command? p code = some c) :
    Flags.requestPort? c = some p := by
  unfold Request.command? at known
  split at known <;> cases known <;> rfl

theorem Request.command_port (p : Port) (r : Request) : Flags.requestPort? (Request.command p r) = some p := by
  unfold Request.command
  cases known : Request.command? p r.code with
  | none => rfl
  | some c => exact Request.command?_port known

theorem State.mem_dueTimers (s : State) (c : Instr) : c ∈ s.dueTimers ↔ s.timerDue c := by
  rw [State.dueTimers, List.mem_filter, State.reaches_iff, and_iff_right_iff_imp]
  intro due
  cases c <;> simp [State.timerDue, Flags.debounceEnds, Flags.downEnds, Flags.presenceEnds] at due ⊢

theorem State.mem_dueSave (s : State) (c : Instr) :
    c ∈ s.dueSave ↔ c = .saveWriteComplete ∧ ∃ v, s.store.save = some v ∧ 120 ≤ v.ms := by
  unfold State.dueSave Flags.reached
  cases s.store.save with
  | none => simp
  | some v =>
    have reached : ((120 : Int) ≤ (v.ms : Int)) ↔ 120 ≤ v.ms := by omega
    simp [and_comm, reached]

theorem State.mem_dueRestart (s : State) (c : Instr) (released : s.inReset = false) :
    c ∈ s.dueRestart ↔ c = .restartTakesEffect ∧ ∃ v, s.restart = some v ∧ v.responseSent = true := by
  unfold State.dueRestart State.restartReady?
  rw [released]
  cases s.restart <;> simp [and_comm]

theorem State.mem_dueRequests (s : State) (c : Instr) :
    c ∈ s.dueRequests ↔
      ∃ p r, s.mayTake p = true ∧ (s.ports.get p).queue.head? = some r ∧ c = Request.command p r := by
  simp only [State.dueRequests, List.mem_filterMap, Port.mem_all, true_and]
  refine exists_congr fun p => ?_
  cases s.mayTake p with
  | false => simp
  | true =>
    rw [if_pos rfl, Option.map_eq_some_iff]
    exact exists_congr fun r => ⟨fun ⟨head, command⟩ => ⟨rfl, head, command.symm⟩,
      fun ⟨_, head, command⟩ => ⟨head, command.symm⟩⟩

/-- Every command is due once: the timer ends are distinct, and each request belongs to its port. -/
theorem State.nodup_due (s : State) : s.due.Nodup := by
  have timers : s.dueTimers.Nodup := List.Pairwise.filter _ (by decide)
  have save : s.dueSave.Nodup := by unfold State.dueSave; split <;> simp
  have restart : s.dueRestart.Nodup := by unfold State.dueRestart; split <;> simp
  have ported (c : Instr) (mem : c ∈ s.dueRequests) : Flags.requestPort? c ≠ none := by
    obtain ⟨p, r, -, -, rfl⟩ := (s.mem_dueRequests c).1 mem
    simp [Request.command_port]
  have requests : s.dueRequests.Nodup := by
    have ports : Port.all.Nodup := by decide
    refine List.pairwise_filterMap.2 (ports.imp fun {p q} other c first d second same => other ?_)
    subst same
    have port (i : Port) (mem : c ∈ if s.mayTake i then (s.ports.get i).queue.head?.map (Request.command i) else none) :
        Flags.requestPort? c = some i := by
      split at mem
      · obtain ⟨r, -, rfl⟩ := Option.map_eq_some_iff.1 mem
        exact Request.command_port i r
      · simp at mem
    exact Option.some.inj ((port p first).symm.trans (port q second))
  have timer (c : Instr) (mem : c ∈ s.dueTimers) :
      Flags.requestPort? c = none ∧ c ≠ .saveWriteComplete ∧ c ≠ .restartTakesEffect := by
    have due := (s.mem_dueTimers c).1 mem
    cases c <;> first | exact absurd due id | exact ⟨rfl, by simp, by simp⟩
  have saving (c : Instr) (mem : c ∈ s.dueSave) : c = .saveWriteComplete := ((s.mem_dueSave c).1 mem).1
  have restarting (c : Instr) (mem : c ∈ s.dueRestart) : c = .restartTakesEffect := by
    unfold State.dueRestart at mem
    split at mem <;> simp_all
  refine List.nodup_append.2 ⟨List.nodup_append.2 ⟨List.nodup_append.2 ⟨timers, save, ?_⟩, restart, ?_⟩, requests, ?_⟩
  · rintro c first d second rfl
    exact (timer c first).2.1 (saving c second)
  · rintro c first d second rfl
    rcases List.mem_append.1 first with due | due
    · exact (timer c due).2.2 (restarting c second)
    · exact absurd ((saving c due).symm.trans (restarting c second)) (by simp)
  · rintro c first d second rfl
    rcases List.mem_append.1 first with first | due
    · rcases List.mem_append.1 first with due | due
      · exact ported c second (timer c due).1
      · exact ported c second (by rw [saving c due]; rfl)
    · exact ported c second (by rw [restarting c due]; rfl)

/-- Settles O2: what is due enters the queue in some order, every command once. -/
theorem emptyQueueLetsOneMillisecondPass : Obligations.EmptyQueueLetsOneMillisecondPass := by
  intro s empty
  have idle : step s = .next s.idle := by rw [step, empty]
  refine ⟨fun held => ?_, fun released => ?_⟩
  · rw [idle, State.idle, if_pos held]
  · intro later due
    have advanced : s.advance = later := by
      have lane (l : LaneController) : l.advance = { l with
          state := match l.state with
            | .down q ms => .down q (ms + 1)
            | other => other
          debounce := l.debounce.map (· + 1) } := by
        cases h : l.state <;> simp [LaneController.advance, LaneState.advance, Flags.advance, h]
      have hold : s.hold.advance = (match s.hold with
          | .lifting q t ms => .lifting q t (ms + 1)
          | .held q t ms => .held q t (ms.map (· + 1))
          | other => other) := by
        cases s.hold <;> rfl
      have port (v : PortState) : v.advance = { v with
          presence := match v.presence with
            | .present ms => .present (ms + 1)
            | .absent => .absent
          rx := match v.rx with
            | .inFrame taken ms => .inFrame taken (ms + 1)
            | .hunting => .hunting } := by
        unfold PortState.advance Presence.advance RxState.advance
        cases v.presence <;> cases v.rx <;> rfl
      have lanes : s.lanes.map LaneController.advance = later.lanes := congrArg s.lanes.map (funext lane)
      have ports : s.ports.map PortState.advance = later.ports := congrArg s.ports.map (funext port)
      unfold State.advance
      rw [lanes, ports, hold]
      rfl
    have order := s.advance.freeOrder_perm s.advance.nodup_due
    have queued (c : Instr) : c ∈ s.advance.due ↔ due c := by
      rw [advanced]
      have queue (p : Port) : (later.ports.get p).queue = (s.ports.get p).queue := by
        rw [← advanced]
        simp [State.advance, PortState.advance]
      simp only [State.due, List.mem_append, State.mem_dueTimers, State.mem_dueSave, State.mem_dueRequests, queue,
        State.mem_dueRestart later c released, or_assoc]
      rfl
    refine ⟨s.advance.freeOrder s.advance.due, order.nodup_iff.2 s.advance.nodup_due,
      fun c => order.mem_iff.trans (queued c), ?_⟩
    rw [idle, State.idle, if_neg (by simp [released]), State.queueDue, s.advance.countAfter_eq order, advanced]

end Sys2Proof.Machine
end

section
/-! PROOFS. What a port's receiver makes of bytes, and what a frame that arrives does (R133 to R137). -/

namespace Sys2Proof.Machine

/-! ### The receiver -/

theorem Frames.receiveAll_append (a b : List RxByte) : ∀ st : RxState,
    Frames.receiveAll st (a ++ b) =
      ((Frames.receiveAll (Frames.receiveAll st a).1 b).1,
        (Frames.receiveAll st a).2 ++ (Frames.receiveAll (Frames.receiveAll st a).1 b).2) := by
  induction a with
  | nil => exact fun st => rfl
  | cons c a ih => exact fun st => by simp [Frames.receiveAll, ih]

/-- A byte on time in frame is judged with the bytes taken. -/
theorem Frames.receive_onTime {taken : List Byte} {ms : Nat} (b : Byte) (onTime : ms ≤ 2) :
    Frames.receive (.inFrame taken ms) ⟨b, false⟩ = Frames.frameByte (taken ++ [b]) := by
  simp [Frames.receive, Nat.not_lt.2 onTime]

/-- A byte before the last CRC byte is taken. -/
theorem Frames.receive_taken {n b : Byte} {rest : List Byte} {ms : Nat} (onTime : ms ≤ 2) (low : 2 ≤ n.toNat)
    (high : n.toNat ≤ 96) (within : rest.length + 1 < n.toNat + 2) :
    Frames.receive (.inFrame (n :: rest) ms) ⟨b, false⟩ = (.inFrame (n :: rest ++ [b]) 0, .nothing) := by
  rw [Frames.receive_onTime b onTime, List.cons_append, Frames.frameByte, if_neg (by omega),
    if_pos (by simpa using within)]

theorem Frames.high_append_low (w : BitVec 16) : (Frames.highByte w ++ Frames.lowByte w : BitVec 16) = w := by
  ext i hi
  simp [Frames.highByte, Frames.lowByte]
  grind

/-- The last CRC byte ends the frame, and the CRC judges it. -/
theorem Frames.receive_last {n hi lo : Byte} {body : List Byte} {ms : Nat} (onTime : ms ≤ 2) (low : 2 ≤ n.toNat)
    (high : n.toNat ≤ 96) (whole : body.length = n.toNat) :
    Frames.receive (.inFrame (n :: body ++ [hi]) ms) ⟨lo, false⟩ =
      (.hunting, if (hi ++ lo : BitVec 16) = Frames.crc16 (n :: body) then .valid body else .discarded) := by
  have crc (w : BitVec 16) : [hi, lo] = [Frames.highByte w, Frames.lowByte w] ↔ (hi ++ lo : BitVec 16) = w := by
    constructor
    · intro same
      simp only [List.cons.injEq, and_true] at same
      obtain ⟨rfl, rfl⟩ := same
      exact Frames.high_append_low w
    · rintro rfl
      exact (Operands.carry2_word hi lo).symm
  have taken : (body ++ [hi, lo]).take n.toNat = body := List.take_left' whole
  have rest : (body ++ [hi, lo]).drop n.toNat = [hi, lo] := List.drop_left' whole
  rw [Frames.receive_onTime lo onTime, List.append_assoc, List.cons_append, Frames.frameByte, if_neg (by omega),
    if_neg (by simp [whole])]
  simp only [List.cons_append, List.nil_append, Frames.judgeFrame, taken, rest, crc]

/-- Bytes on time that do not reach the last CRC byte are all taken. -/
theorem Frames.receiveAll_taken {n : Byte} (low : 2 ≤ n.toNat) (high : n.toNat ≤ 96) (bs : List Byte) :
    ∀ rest : List Byte, rest.length + bs.length < n.toNat + 2 →
      Frames.receiveAll (.inFrame (n :: rest) 0) (Frames.onTime bs) =
        (.inFrame (n :: rest ++ bs) 0, List.replicate bs.length .nothing) := by
  induction bs with
  | nil => exact fun rest _ => by simp [Frames.receiveAll, Frames.onTime]
  | cons b bs ih =>
    intro rest within
    simp only [List.length_cons] at within
    have first := Frames.receive_taken (b := b) (Nat.zero_le 2) low high (rest := rest) (by omega)
    have later := ih (rest ++ [b]) (by simp only [List.length_append, List.length_singleton]; omega)
    simp only [Frames.onTime] at later ⊢
    simp only [List.map_cons, Frames.receiveAll, first, List.cons_append]
    rw [later]
    simp [List.replicate_succ]

/-! ### A whole frame -/

/-- The length byte of a frame with this body. -/
def Frames.lengthByte (body : List Byte) : Byte := BitVec.ofNat 8 body.length

/-- The CRC of a frame with this body. -/
def Frames.crcOf (body : List Byte) : BitVec 16 := Frames.crc16 (Frames.lengthByte body :: body)

/-- The bytes of a frame between its start byte and its last CRC byte. -/
def Frames.inner (body : List Byte) : List Byte :=
  Frames.lengthByte body :: body ++ [Frames.highByte (Frames.crcOf body)]

theorem Frames.wire_eq (body : List Byte) :
    Frames.wire body = (Frames.startByte :: Frames.inner body) ++ [Frames.lowByte (Frames.crcOf body)] := by
  simp [Frames.wire, Frames.inner, Frames.crcOf, Frames.lengthByte]

theorem Frames.toNat_lengthByte {body : List Byte} (short : body.length ≤ 96) :
    (Frames.lengthByte body).toNat = body.length := by
  rw [Frames.lengthByte, BitVec.toNat_ofNat, Nat.mod_eq_of_lt (by omega)]

/-- In frame, the bytes up to the last CRC byte are taken. -/
theorem Frames.receiveAll_inner {body : List Byte} (low : 2 ≤ body.length) (high : body.length ≤ 96) :
    Frames.receiveAll (.inFrame [] 0) (Frames.onTime (Frames.inner body)) =
      (.inFrame (Frames.inner body) 0, List.replicate (body.length + 2) .nothing) := by
  have length := Frames.toNat_lengthByte high
  have opened : Frames.receive (.inFrame [] 0) ⟨Frames.lengthByte body, false⟩ =
      (.inFrame [Frames.lengthByte body] 0, .nothing) := by
    rw [Frames.receive_onTime _ (Nat.zero_le 2), List.nil_append, Frames.frameByte, if_neg (by omega),
      if_pos (by simp)]
  have taken := Frames.receiveAll_taken (n := Frames.lengthByte body) (by omega) (by omega)
    (body ++ [Frames.highByte (Frames.crcOf body)]) []
    (by simp only [List.length_nil, List.length_append, List.length_singleton]; omega)
  simp only [Frames.onTime, Frames.inner, List.cons_append, List.map_cons, Frames.receiveAll] at taken ⊢
  rw [opened]
  simp only [taken, List.length_append, List.length_singleton]
  rfl

/-- The last CRC byte makes the frame valid. -/
theorem Frames.receive_lastOfWire {body : List Byte} (low : 2 ≤ body.length) (high : body.length ≤ 96) :
    Frames.receive (.inFrame (Frames.inner body) 0) ⟨Frames.lowByte (Frames.crcOf body), false⟩ =
      (.hunting, .valid body) := by
  have length := Frames.toNat_lengthByte high
  have crc : (Frames.highByte (Frames.crcOf body) ++ Frames.lowByte (Frames.crcOf body) : BitVec 16) =
      Frames.crc16 (Frames.lengthByte body :: body) := Frames.high_append_low _
  rw [Frames.inner, Frames.receive_last (Nat.zero_le 2) (by omega) (by omega) length.symm, if_pos crc]

/-- Settles O3. -/
theorem wireFrameIsReceivedWhole : Obligations.WireFrameIsReceivedWhole := by
  intro body low high
  have opened : Frames.receive .hunting ⟨Frames.startByte, false⟩ = (.inFrame [] 0, .nothing) := rfl
  have inner := Frames.receiveAll_inner low high
  have last := Frames.receive_lastOfWire low high
  rw [Frames.wire_eq, Frames.onTime, List.map_append, List.map_cons, Frames.receiveAll_append]
  simp only [Frames.onTime] at inner
  simp only [Frames.receiveAll, opened, inner, List.map_cons, List.map_nil, last]
  rfl

/-! ### Bytes that complete no valid frame (R133, R134) -/

/-- A counter that has risen n times. -/
def SatCounter.risen (c : SatCounter) (n : Nat) : SatCounter :=
  ⟨BitVec.ofNat 16 (min (c.count.toNat + n) 65535), c.full || decide (0 < n ∧ 65535 ≤ c.count.toNat + n)⟩

theorem SatCounter.rise_eq (c : SatCounter) :
    c.rise = ⟨if c.count = 0xFFFF then 0xFFFF else c.count + 1, c.full || decide (0xFFFE ≤ c.count.toNat)⟩ := by
  obtain ⟨count, full⟩ := c
  unfold SatCounter.rise
  by_cases top : count = 0xFFFF
  · subst top
    simp
  · have below : count.toNat < 65535 := by
      have := count.isLt
      have : count.toNat ≠ 65535 := fun same => top (BitVec.eq_of_toNat_eq same)
      omega
    simp only [top, if_false, SatCounter.mk.injEq, true_and]
    congr 1
    refine decide_eq_decide.2 ?_
    have one : (1 : BitVec 16).toNat = 1 := rfl
    have last : (0xFFFF : BitVec 16).toNat = 65535 := rfl
    rw [← BitVec.toNat_inj, BitVec.toNat_add, one, last]
    omega

theorem SatCounter.risen_zero (c : SatCounter) : c.risen 0 = c := by
  obtain ⟨count, full⟩ := c
  have := count.isLt
  have kept : min (count.toNat + 0) 65535 = count.toNat := by omega
  rw [SatCounter.risen, kept]
  simp

theorem SatCounter.risen_rise (c : SatCounter) (n : Nat) : c.rise.risen n = c.risen (n + 1) := by
  obtain ⟨count, full⟩ := c
  have := count.isLt
  rw [SatCounter.rise_eq]
  have next : (if count = 0xFFFF then (0xFFFF : BitVec 16) else count + 1).toNat = min (count.toNat + 1) 65535 := by
    split
    next top => subst top; rfl
    next below =>
      have : count.toNat ≠ 65535 := fun same => below (BitVec.eq_of_toNat_eq same)
      have one : (1 : BitVec 16).toNat = 1 := rfl
      rw [BitVec.toNat_add, one]
      omega
  simp only [SatCounter.risen, next, SatCounter.mk.injEq]
  constructor
  · congr 1
    omega
  · rw [Bool.or_assoc]
    congr 1
    rw [Bool.eq_iff_iff]
    simp only [Bool.or_eq_true, decide_eq_true_eq]
    omega

theorem State.updatePort_congr {s : State} {p : Port} {f g : PortState → PortState}
    (same : f (s.ports.get p) = g (s.ports.get p)) : s.updatePort p f = s.updatePort p g := by
  simp only [State.updatePort, PerPort.modify, same]

theorem State.updatePort_id (s : State) (p : Port) : s.updatePort p (fun v => v) = s := by
  simp [State.updatePort, PerPort.modify]

theorem State.updatePort_updatePort (s : State) (p : Port) (f g : PortState → PortState) :
    (s.updatePort p f).updatePort p g = s.updatePort p fun v => g (f v) := by
  simp [State.updatePort]

theorem State.get_updatePort (s : State) (p : Port) (f : PortState → PortState) :
    ((s.updatePort p f).ports.get p) = f (s.ports.get p) := by
  simp [State.updatePort]

/-- What bytes that complete no valid frame do to their port: its receiver, and its frame errors by one for each discarded
frame. -/
theorem State.receiveBytes_of_no_frame (p : Port) (bytes : List RxByte) : ∀ s : State,
    (∀ body, RxEvent.valid body ∉ (Frames.receiveAll (s.ports.get p).rx bytes).2) →
      s.receiveBytes p bytes = s.updatePort p fun v =>
        { v with
          rx := (Frames.receiveAll v.rx bytes).1
          frameErrors := v.frameErrors.risen ((Frames.receiveAll v.rx bytes).2.count .discarded) } := by
  induction bytes with
  | nil =>
    intro s _
    simp only [State.receiveBytes, List.foldl_nil, Frames.receiveAll, List.count_nil, SatCounter.risen_zero]
    exact (s.updatePort_id p).symm
  | cons b bytes ih =>
    intro s none_valid
    simp only [Frames.receiveAll, List.mem_cons, not_or] at none_valid
    have later (u : State) (rx : (u.ports.get p).rx = (Frames.receive (s.ports.get p).rx b).1) :
        u.receiveBytes p bytes = _ := ih u fun body => rx ▸ (none_valid body).2
    show (s.receiveByte p b).receiveBytes p bytes = _
    have first (body : List Byte) := (none_valid body).1
    cases event : (Frames.receive (s.ports.get p).rx b).2 with
    | valid body => exact absurd event.symm (first body)
    | nothing =>
      have received : s.receiveByte p b =
          s.updatePort p fun v => { v with rx := (Frames.receive (s.ports.get p).rx b).1 } := by
        simp [State.receiveByte, event]
      rw [received, later _ (by rw [State.get_updatePort]), State.updatePort_updatePort]
      refine State.updatePort_congr ?_
      simp [Frames.receiveAll, event]
    | discarded =>
      have received : s.receiveByte p b = s.updatePort p fun v =>
          { v with rx := (Frames.receive (s.ports.get p).rx b).1, frameErrors := v.frameErrors.rise } := by
        simp [State.receiveByte, event, State.updatePort_updatePort]
      rw [received, later _ (by rw [State.get_updatePort]), State.updatePort_updatePort]
      refine State.updatePort_congr ?_
      simp [Frames.receiveAll, event, SatCounter.risen_rise]

/-- Settles O5. -/
theorem framesAreDiscardedByRule : Obligations.FramesAreDiscardedByRule := by
  refine ⟨⟨fun b => rfl, fun taken ms b late => ?_, fun ms onTime => ⟨fun n bad => ?_, fun n low high => ?_,
    fun n b rest low high within => Frames.receive_taken onTime low high within,
    fun n hi lo body low high whole wrong => ?_⟩⟩, fun p bytes s released none_valid => ?_⟩
  · have ended : (b.lateGap || decide (2 < ms)) = true := by simpa using late
    simp only [Frames.receive, ended, if_true]
    rfl
  · rw [Frames.receive_onTime n onTime, List.nil_append, Frames.frameByte, if_pos bad]
  · rw [Frames.receive_onTime n onTime, List.nil_append, Frames.frameByte, if_neg (by omega), if_pos (by simp)]
  · rw [Frames.receive_last onTime low high whole, if_neg wrong]
  · show Host.Outcome.next (if s.inReset then s else (s.receiveBytes p bytes).settle) = _
    rw [released, if_neg (by simp), State.receiveBytes_of_no_frame p bytes s none_valid]
    rfl

/-! ### A valid frame (R135, R137) -/

/-- The bytes of a frame up to the last make the receiver ready for it; the last one makes the frame arrive. -/
theorem State.receiveBytes_wire {p : Port} {body : List Byte} {s : State} (low : 2 ≤ body.length)
    (high : body.length ≤ 96) {event : RxEvent}
    (opened : Frames.receive (s.ports.get p).rx ⟨Frames.startByte, false⟩ = (.inFrame [] 0, event))
    (no_frame : ∀ b, event ≠ .valid b) :
    s.receiveBytes p (Frames.onTime (Frames.wire body)) =
      (s.updatePort p fun v =>
        { v with rx := .hunting, frameErrors := v.frameErrors.risen (if event = .discarded then 1 else 0) }).frameArrives p
        (.ofBody body) := by
  have inner := Frames.receiveAll_inner low high
  have before : Frames.receiveAll (s.ports.get p).rx (Frames.onTime (Frames.startByte :: Frames.inner body)) =
      (.inFrame (Frames.inner body) 0, event :: List.replicate (body.length + 2) .nothing) := by
    simp only [Frames.onTime] at inner
    simp only [Frames.onTime, List.map_cons, Frames.receiveAll, opened, inner]
  have none_valid (b : List Byte) :
      RxEvent.valid b ∉ (Frames.receiveAll (s.ports.get p).rx (Frames.onTime (Frames.startByte :: Frames.inner body))).2 := by
    rw [before]
    simp [List.mem_replicate, (no_frame b).symm]
  have split_last : s.receiveBytes p (Frames.onTime (Frames.wire body)) =
      (s.receiveBytes p (Frames.onTime (Frames.startByte :: Frames.inner body))).receiveByte p
        ⟨Frames.lowByte (Frames.crcOf body), false⟩ := by
    rw [Frames.wire_eq, Frames.onTime, List.map_append]
    exact List.foldl_append
  rw [split_last, State.receiveBytes_of_no_frame p _ s none_valid]
  unfold State.receiveByte
  simp only [State.get_updatePort, before, Frames.receive_lastOfWire low high, State.updatePort_updatePort]
  congr 1
  refine State.updatePort_congr ?_
  have count : (event :: List.replicate (body.length + 2) RxEvent.nothing).count .discarded =
      if event = .discarded then 1 else 0 := by
    rw [List.count_cons, List.count_replicate]
    simp
  simp only [before, count]

/-- Settles O4. -/
theorem validFrameRefreshesAndQueues : Obligations.ValidFrameRefreshesAndQueues := by
  intro p body s released rise arrival
  have arrives (u : State) : u.frameArrives p (.ofBody body) = arrival u := by
    have overrun (v : PortState) : ({ v with overruns := v.overruns.rise } : PortState) = { v with overruns := rise v.overruns } := by
      rw [SatCounter.rise_eq]
    have refreshed : u.refreshPresence p =
        if u.portPresent p then u.updatePort p fun v => { v with presence := .present 0 }
        else (u.updatePort p fun v => { v with presence := .present 0 }).raise .portPresent := by
      unfold State.refreshPresence State.portPresent
      cases (u.ports.get p).presence <;> rfl
    have queue : ((u.refreshPresence p).ports.get p).queue = (u.ports.get p).queue := by
      rw [refreshed]
      split <;> simp [State.get_updatePort]
    unfold State.frameArrives State.enqueue
    rw [queue, refreshed]
    simp only [overrun]
    rfl
  have taken (u : State) (received : s.receiveBytes p (Frames.onTime (Frames.wire body)) = u.frameArrives p (.ofBody body)) :
      exec (.validFrame p body) s = .next (arrival u).settle := by
    show Host.Outcome.next (if s.inReset then s else (s.receiveBytes p (Frames.onTime (Frames.wire body))).settle) = _
    rw [released, if_neg (by simp), received, arrives]
  refine ⟨fun low high hunting => taken s ?_, fun rx ms low high inFrame late => taken _ ?_, rfl⟩
  · have unchanged : (s.updatePort p fun v => { v with rx := .hunting, frameErrors := v.frameErrors.risen 0 }) = s := by
      refine (State.updatePort_congr ?_).trans (s.updatePort_id p)
      rw [SatCounter.risen_zero, ← hunting]
    rw [State.receiveBytes_wire low high (event := .nothing) (by rw [hunting]; rfl) (by simp)]
    exact congrArg (fun u => State.frameArrives u p (.ofBody body)) unchanged
  · have counted (c : SatCounter) : c.risen 1 = rise c := by
      rw [← SatCounter.risen_rise, SatCounter.risen_zero, SatCounter.rise_eq]
    have discards : Frames.receive (s.ports.get p).rx ⟨Frames.startByte, false⟩ = (.inFrame [] 0, .discarded) := by
      rw [inFrame, Frames.receive, if_pos (by simpa using late)]
      rfl
    rw [State.receiveBytes_wire low high discards (by simp)]
    simp only [if_true, counted]
    rfl

end Sys2Proof.Machine
end

section
/-! PROOFS. Lines that become free, presence, and requests that wait their turn (R136, R137, R139 to R142). -/

namespace Sys2Proof.Machine

/-! ### A line that becomes free -/

theorem PortState.sendNext_of_no_response {v : PortState} (none_waits : v.response = none) (first : Bool) :
    v.sendNext first = { v with sending := v.status, status := none } := by
  obtain ⟨_, _, _, _, _, _, _, response, status⟩ := v
  obtain rfl : response = none := none_waits
  cases status <;> rfl

theorem PortState.sendNext_of_no_status {v : PortState} (none_waits : v.status = none) (first : Bool) :
    v.sendNext first = { v with sending := v.response, response := none } := by
  obtain ⟨_, _, _, _, _, _, _, response, status⟩ := v
  obtain rfl : status = none := none_waits
  cases response <;> rfl

/-- Where both wait the free value decides (R136; log 6). -/
theorem PortState.sendNext_cases (v : PortState) (first : Bool) :
    v.sendNext first = { v with sending := v.status, status := none } ∨
      v.sendNext first = { v with sending := v.response, response := none } := by
  obtain ⟨_, _, _, _, _, _, _, response, status⟩ := v
  cases response with
  | none => exact .inl (PortState.sendNext_of_no_response rfl first)
  | some r =>
    cases status with
    | none => exact .inr (PortState.sendNext_of_no_status rfl first)
    | some t => cases first <;> simp [PortState.sendNext]

/-- Settles O6. -/
theorem frameSentFreesTheLine : Obligations.FrameSentFreesTheLine := by
  intro p s f released sending noted
  have sent : s.noteRestartSent f = { s with restart := noted } := by
    unfold State.noteRestartSent
    cases f with
    | mk kind body =>
      cases kind with
      | restartResponse =>
        cases pending : s.restart with
        | none => exact congrArg (fun v => ({ s with restart := v } : State)) (by simp [noted, pending])
        | some v => simp [noted, pending]
      | response => rfl
      | statusFrame => rfl
  let u : State := { s with restart := noted }
  let both := (s.ports.get p).response.isSome && (s.ports.get p).status.isSome
  let first := if both then Config.statusFirst s.freeCount else false
  refine ⟨(s.ports.get p).sendNext first, if both then s.freeCount + 1 else s.freeCount, ?_,
    fun no_response => PortState.sendNext_of_no_response no_response first,
    fun no_status => PortState.sendNext_of_no_status no_status first, PortState.sendNext_cases _ first⟩
  have taken : exec (.frameSent p) s = .next ((s.noteRestartSent f).nextFrame p) := by
    show Host.Outcome.next (match s.inReset, (s.ports.get p).sending with
      | false, some f => (s.noteRestartSent f).nextFrame p
      | _, _ => s) = _
    rw [released, sending]
  rw [taken, sent]
  rfl

/-! ### Presence that is lost -/

/-- Settles O7. -/
theorem presenceLossReachesTheBlocks : Obligations.PresenceLossReachesTheBlocks := by
  intro p s ms released present reached gone orphan
  have due : s.reaches (.presenceTimerExpiry p) = true := (s.reaches_iff _).2 ⟨ms, present, reached⟩
  have taken : exec (.presenceTimerExpiry p) s = .next (s.expirePresence p).settle := by
    show Host.Outcome.next (if !s.inReset && s.reaches (.presenceTimerExpiry p) then _ else _) = _
    rw [released, due]
    rfl
  have lost : s.expirePresence p = (gone.blocksLosePort p).raise .portAbsent := by
    unfold State.expirePresence
    rw [present]
    rfl
  have role : gone.roleOf p = s.roleOf p := rfl
  rw [taken, lost]
  congr 3
  unfold State.blocksLosePort
  rw [role]
  cases s.roleOf p with
  | unused => rfl
  | observer => rfl
  | unit x =>
    have lane : gone.lane x = s.lane x := rfl
    dsimp only
    unfold State.laneLosesPort
    rw [lane]
    cases (s.lane x).state <;> rfl
  | geometry =>
    dsimp only
    unfold State.holdLosesPort
    rfl
  | travel =>
    dsimp only
    unfold State.endGrantIfAny
    have motion : gone.motion = s.motion := rfl
    rw [motion]
    rfl

/-! ### Requests that wait -/

theorem State.mayTake_eq_true (s : State) (p : Port) : s.mayTake p = true ↔
    s.pins.rstn = .high ∧ (s.ports.get p).response = none ∧ (∀ v, s.store.save = some v → v.port ≠ p) ∧
      ∀ v, s.restart = some v → v.port ≠ p := by
  have saving : (match s.store.save with | some v => decide (v.port ≠ p) | none => true) = true ↔
      ∀ v, s.store.save = some v → v.port ≠ p := by
    cases s.store.save <;> simp
  have restarting : (match s.restart with | some v => decide (v.port ≠ p) | none => true) = true ↔
      ∀ v, s.restart = some v → v.port ≠ p := by
    cases s.restart <;> simp
  rw [State.mayTake, Bool.and_eq_true, Bool.and_eq_true, Bool.and_eq_true, Bool.not_eq_true', State.inReset_eq_false,
    Option.isNone_iff_eq_none]
  refine (and_congr (and_congr .rfl saving) restarting).trans ?_
  rw [and_assoc, and_assoc]

/-- Nothing at the front of the queue may be taken under these codes. -/
theorem State.front?_eq_none {s : State} {p : Port} {isCode : Byte → Bool}
    (waits : s.mayTake p = false ∨ ∀ r, (s.ports.get p).queue.head? = some r → isCode r.code = false) :
    s.front? p isCode = none := by
  unfold State.front?
  rcases waits with held | other
  · rw [held, if_neg (by simp)]
  · split
    · cases queue : (s.ports.get p).queue with
      | nil => rfl
      | cons r rest =>
        have := other r (by rw [queue]; rfl)
        simp [this]
    · rfl

theorem State.takeRequest_of_none {s : State} {p : Port} {code : Byte} {judge : State → Request → Reply}
    (none_taken : s.front? p (fun c => c = code) = none) : s.takeRequest p code judge = s := by
  rw [State.takeRequest, none_taken]

/-- The command of a request's code takes requests of that code; AXIS PRESET then offers a candidate that waited. -/
theorem exec_of_command? {p : Port} {code : Byte} {c : Instr} (known : Request.command? p code = some c) (s : State) :
    ∃ judge, exec c s = .next (s.takeRequest p code judge) ∨ exec c s = .next (s.takeRequest p code judge).offerMade := by
  have byte : code = BitVec.ofNat 8 code.toNat := by simp
  unfold Request.command? at known
  generalize code.toNat = n at known byte
  subst byte
  split at known <;> cases known <;> first | exact ⟨_, .inl rfl⟩ | exact ⟨_, .inr rfl⟩

/-- The codes with no length are those that name no request (R139, R144). -/
theorem Request.isUnknown_iff (code : Byte) : Request.isUnknown code = true ↔ Request.length? code = none := by
  revert code
  decide +kernel

theorem exec_of_not_reached {s : State} {c : Instr} (ends : Flags.isTimerEnd c = true) (early : s.reaches c = false) :
    exec c s = .next s := by
  have idle (u : State) : (if !s.inReset && s.reaches c then u else s) = s := by rw [early, Bool.and_false, if_neg (by simp)]
  cases c with
  | assertion x => exact congrArg Host.Outcome.next (idle _)
  | release x => exact congrArg Host.Outcome.next (idle _)
  | downTimerExpiry x => exact congrArg Host.Outcome.next (idle _)
  | liftTimerExpiry => exact congrArg Host.Outcome.next (idle _)
  | overdueTimerExpiry => exact congrArg Host.Outcome.next (idle _)
  | presenceTimerExpiry p => exact congrArg Host.Outcome.next (idle _)
  | statusTimerExpiry p => exact congrArg Host.Outcome.next (idle _)
  | _ => simp [Flags.isTimerEnd] at ends

/-- Settles O8. -/
theorem commandsWaitTheirTurn : Obligations.CommandsWaitTheirTurn := by
  refine ⟨State.mayTake_eq_true, fun s p code c known none_made waits => ?_, fun s p waits => ?_,
    fun s c ends early => exec_of_not_reached ends ?_, State.quiescent_iff⟩
  · have none_taken := State.front?_eq_none (isCode := fun c => c = code)
      (waits.imp_right fun other r head => decide_eq_false (other r head))
    obtain ⟨judge, taken | offered⟩ := exec_of_command? known s
    · rw [taken, State.takeRequest_of_none none_taken]
    · rw [offered, State.takeRequest_of_none none_taken, State.offerMade_of_none none_made]
  · have none_taken := State.front?_eq_none (isCode := Request.isUnknown) (waits.imp_right fun known r head =>
      Bool.eq_false_iff.2 fun unknown => known r head ((Request.isUnknown_iff r.code).1 unknown))
    show Host.Outcome.next (match s.front? p Request.isUnknown with
      | none => s
      | some r => (State.respond p r (Reply.refuse (s.popQueue p) .malformed)).settle) = _
    rw [none_taken]
  · exact Bool.eq_false_iff.2 fun reached => early ((s.reaches_iff c).1 reached)

/-! ### KEY and PRESENT (R137, R141) -/

/-- An answer that uses the key window in its own way. -/
theorem State.respond_keyed (p : Port) (r : Request) (t : State) (result : Result) (data : List Byte) (k : KeyUse) :
    State.respond p r { Reply.answer t result data with key := k } =
      (t.updatePort p fun v => { v with keyCount := k.apply v.keyCount }).sends p r .response result data := by
  simp [State.respond, Reply.answer, State.sendResponse_eq, State.useKey]

/-- Settles O9. -/
theorem keyAndPresentAreAnswered : Obligations.KeyAndPresentAreAnswered := by
  refine ⟨fun p r s key hands bytes => ?_, fun p r s hands none_given => ?_⟩
  · intro window
    have taken : exec (.key p) s = .next (s.afterJudging p r [(!(s.portRole p).setup, .noRight)]
        (State.respond p r (if key = 0x6B then { Reply.answer (s.unqueues p) .accepted [] with key := .openWindow }
          else { Reply.refuse (s.unqueues p) .badKey with key := .closeWindow }))) := by
      show Host.Outcome.next (s.takeRequest p 0x0D (State.judgeKey p)) = _
      rw [State.takeRequest_of_hands hands, State.judgeKey, bytes, State.respond_judge, (s.unqueues_ofPort p p).1]
    refine ⟨fun setup opens => ?_, fun setup closes => ?_, fun none_given => ?_⟩
    · rw [taken, State.afterJudging_of_passes (by simp [setup]), if_pos opens, State.respond_keyed]
      rfl
    · rw [taken, State.afterJudging_of_passes (by simp [setup]), if_neg closes, Reply.refuse, State.respond_keyed]
      rfl
    · rw [taken, State.afterJudging_of_lowest (c := .noRight) (by simp [none_given]) (by simp)]
  · show Host.Outcome.next (s.takeRequest p 0x01 (State.judgePresent p)) = _
    rw [State.takeRequest_of_hands hands, State.judgePresent, none_given]
    simp only [State.respond_answer, State.unqueues_key, State.unqueues_ofPort, State.unqueues_conditions, KeyUse.apply]
    rfl

end Sys2Proof.Machine
end

section
/-! PROOFS. Events, deliveries and status frames (R146 to R150). -/

namespace Sys2Proof.Machine

/-! ### Events (R147) -/

theorem State.raise_events (s : State) (e : Event) (p : Port) : (s.raise e).events.get p =
    if e.targets p (s.portRole p) then (s.events.get p).latch e else s.events.get p :=
  PerPort.get_ofFn _ p

theorem Role.isUnit_iff (r : Role) : r.isUnit = true ↔ ∃ x, r = .unit x := by
  cases r <;> simp [Role.isUnit]

/-- Settles O10. -/
theorem eventsLatchAtTheirTargets : Obligations.EventsLatchAtTheirTargets := by
  refine ⟨fun s e => ⟨fun p => ?_, rfl, fun p => ?_⟩, fun x p => ?_, fun e p r => ?_⟩
  · rw [State.raise_events]
    cases target : e.targets p (s.portRole p) with
    | true => exact ⟨.inl ⟨rfl, rfl⟩, rfl, rfl, rfl⟩
    | false => exact ⟨.inr ⟨rfl, rfl⟩, rfl, rfl, rfl⟩
  · rw [State.hasLatched_raise, or_comm]
    simp
  · cases x <;> cases p <;> rfl
  · cases e <;> simp [Event.targets, Role.isUnit_iff, or_assoc]

/-! ### Deliveries (R149) -/

theorem Operands.mem_eventNumbers (w : BitVec 24) (i : Nat) :
    i ∈ Operands.eventNumbers w ↔ 1 ≤ i ∧ i ≤ 24 ∧ w.getLsbD (i - 1) = true := by
  simp only [Operands.eventNumbers, List.mem_filterMap, List.mem_range]
  constructor
  · rintro ⟨j, below, number⟩
    split at number
    next set =>
      obtain rfl := Option.some.inj number
      exact ⟨by omega, by omega, by simpa using set⟩
    next => simp at number
  · rintro ⟨low, high, set⟩
    exact ⟨i - 1, by omega, by rw [if_pos set, Nat.sub_add_cancel low]⟩

theorem Operands.eventNumbers_sorted (w : BitVec 24) : (Operands.eventNumbers w).Pairwise (· < ·) := by
  refine List.Pairwise.filterMap _ (fun i j less a first b second => ?_) List.pairwise_lt_range
  have lower := Option.some.inj (Option.ite_none_right_eq_some.1 first).2
  have upper := Option.some.inj (Option.ite_none_right_eq_some.1 second).2
  omega

/-- The set left when the numbers of a list are cleared. -/
theorem EventPort.getLsbD_cleared (numbers : List Nat) {i : Nat} (inside : i < 24) : ∀ w : BitVec 24,
    (∀ n ∈ numbers, 1 ≤ n) →
    ((numbers.foldl (fun w n => w &&& ~~~(BitVec.twoPow 24 (n - 1))) w).getLsbD i = true ↔
      w.getLsbD i = true ∧ i + 1 ∉ numbers) := by
  induction numbers with
  | nil => simp
  | cons n numbers ih =>
    intro w low
    obtain ⟨here, rest⟩ := List.forall_mem_cons.1 low
    rw [List.foldl_cons, ih _ rest, List.mem_cons, not_or]
    have bit : i = n - 1 ↔ i + 1 = n := by omega
    have cleared : (w &&& ~~~(BitVec.twoPow 24 (n - 1))).getLsbD i = true ↔ w.getLsbD i = true ∧ ¬ i + 1 = n := by
      simp [inside, bit]
    rw [cleared, and_assoc]

/-- Settles O11. -/
theorem deliveryTakesTheLowestEvents : Obligations.DeliveryTakesTheLowestEvents := by
  intro v n
  have chosen : v.chosen = (Operands.eventNumbers v.deliverable).take 8 := rfl
  have member (i : Nat) (mem : i ∈ v.chosen) : i ∈ Operands.eventNumbers v.deliverable := List.mem_of_mem_take mem
  have sorted := Operands.eventNumbers_sorted v.deliverable
  have length : v.chosen.length = min 8 n := List.length_take
  have deliverable (i : Nat) (mem : i ∈ v.chosen) : v.deliverable.getLsbD (i - 1) = true ∧ 1 ≤ i ∧ i ≤ 24 := by
    obtain ⟨low, high, set⟩ := (Operands.mem_eventNumbers _ i).1 (member i mem)
    exact ⟨set, low, high⟩
  refine ⟨length, fun i inside => EventPort.getLsbD_cleared v.chosen inside v.latched fun k mem => (deliverable k mem).2.1,
    deliverable, fun i mem j low below set => ?_, sorted.sublist (List.take_sublist 8 _), ?_, ?_, rfl, rfl, rfl, rfl⟩
  · obtain ⟨-, -, high⟩ := deliverable i mem
    have listed : j ∈ Operands.eventNumbers v.deliverable := (Operands.mem_eventNumbers _ j).2 ⟨low, by omega, set⟩
    rw [← List.take_append_drop 8 (Operands.eventNumbers v.deliverable)] at listed sorted
    rcases List.mem_append.1 listed with taken | left
    · exact taken
    · have above := (List.pairwise_append.1 sorted).2.2 i mem j left
      omega
  · simp only [EventPort.deliveryData, List.length_append, List.length_map, List.length_replicate, List.length_cons,
      List.length_nil]
    omega
  · rw [EventPort.deliveryData, List.append_assoc]
    rfl

/-! ### Requests on events (R148 to R150) -/

/-- Settles O12. -/
theorem eventRequestsActOnTheirPort : Obligations.EventRequestsActOnTheirPort := by
  refine ⟨fun p r s hands none_given => ?_, fun p r s s2 s1 s0 v2 v1 v0 hands bytes => ?_, fun p r s b hands bytes => ?_⟩
  · show Host.Outcome.next (s.takeRequest p 0x03 (State.judgeReadEvents p)) = _
    rw [State.takeRequest_of_hands hands, State.judgeReadEvents, none_given]
    simp only [State.respond_answer]
    rfl
  · intro select value
    refine ⟨((s.events.get p).masked select value).mask, fun i inside => ?_, ?_⟩
    · simp only [EventPort.masked, BitVec.getLsbD_or, BitVec.getLsbD_and, BitVec.getLsbD_not, inside]
      cases select.getLsbD i <;> simp
    · show Host.Outcome.next (s.takeRequest p 0x04 (State.judgeEventMask p)) = _
      rw [State.takeRequest_of_hands hands, State.judgeEventMask, bytes]
      simp only [State.respond_answer]
      rfl
  · intro units
    show Host.Outcome.next (s.takeRequest p 0x05 (State.judgeStatusInterval p)) = _
    rw [State.takeRequest_of_hands hands, State.judgeStatusInterval, bytes]
    have adjusted : Operands.taken (EventPort.intervalTaken b ≠ b) = if b = 1 then .adjusted else .accepted := by
      unfold EventPort.intervalTaken
      by_cases one : b = 1
      · subst one
        rfl
      · simp only [if_neg one, ne_eq, not_true_eq_false, decide_false]
        rfl
    have interval (v : EventPort) : v.withInterval units =
        { v with interval := 10 * units.toNat, timer := if units = 0 then none else some 0 } := by
      simp [EventPort.withInterval, Int.mul_comm]
    simp only [State.respond_answer]
    show Host.Outcome.next (((s.unqueues p).updateEvents p fun v => v.withInterval units).answers p r
      (Operands.taken (EventPort.intervalTaken b ≠ b)) [units]).settle = _
    rw [adjusted]
    simp only [interval]
    rfl

/-! ### Status frames (R150) -/

theorem State.length_stateBlock (s : State) : s.stateBlock.length = 30 := by
  simp [State.stateBlock, Lane.all]

theorem EventPort.length_deliveryData (v : EventPort) : v.deliveryData.length = 10 := by
  obtain ⟨-, -, -, -, -, length, -⟩ := deliveryTakesTheLowestEvents v
  exact length

/-- Settles O13. -/
theorem statusTimerFormsOneFrame : Obligations.StatusTimerFormsOneFrame := by
  intro p s ms released running reached
  have due : s.reaches (.statusTimerExpiry p) = true := (s.reaches_iff _).2 ⟨ms, running, reached⟩
  have taken : exec (.statusTimerExpiry p) s = .next (s.expireStatus p) := by
    show Host.Outcome.next (if !s.inReset && s.reaches (.statusTimerExpiry p) then _ else _) = _
    rw [released, due]
    rfl
  refine ⟨fun waits => ?_, fun none_waits => ?_⟩
  · rw [taken, State.expireStatus, if_pos waits]
    rfl
  · intro f
    refine ⟨by simp [f, State.length_stateBlock, EventPort.length_deliveryData], ?_⟩
    rw [taken, State.expireStatus, if_neg (by simp [none_waits])]
    congr 1
    refine State.updatePort_congr ?_
    show (match (s.ports.get p).sending with
      | none => { s.ports.get p with sending := some f }
      | some _ => { s.ports.get p with status := some f }) = { s.ports.get p with
        sending := some ((s.ports.get p).sending.getD f), status := if (s.ports.get p).sending.isSome then some f else none }
    generalize s.ports.get p = v at none_waits
    obtain ⟨_, _, _, _, _, _, sending, _, status⟩ := v
    obtain rfl : status = none := none_waits
    cases sending <;> rfl

end Sys2Proof.Machine
end

section
/-! PROOFS. The requests that only read (R46, R47, R63, R85, R151, R152, R156). -/

namespace Sys2Proof.Machine

/-! ### READ ENTRY and READ REGISTER (R46, R47) -/

/-- The port lacks the READ right, before and after its frame has left the queue. -/
theorem State.lacksRead_eq (s : State) (p : Port) : s.lacksRead p = !(s.portRole p).read := rfl

theorem Entry.drop_zipIdx (es : List Entry) (k : Nat) : ∀ i, (es.zipIdx i).drop k = (es.drop k).zipIdx (i + k) := by
  induction k generalizing es with
  | zero => simp
  | succ k ih =>
    intro i
    cases es with
    | nil => rfl
    | cons e es => simpa [List.zipIdx_cons, Nat.add_assoc, Nat.add_comm 1 k] using ih es (i + 1)

theorem Entry.take_zipIdx (es : List Entry) (n : Nat) : ∀ i, (es.zipIdx i).take n = (es.take n).zipIdx i := by
  induction n generalizing es with
  | zero => simp
  | succ n ih =>
    intro i
    cases es with
    | nil => rfl
    | cons e es => simp [List.zipIdx_cons, ih]

/-- Entries are carried each with its index, counted from the head (R33, R47). -/
theorem Entry.carriedFrom_eq (es : List Entry) : ∀ i,
    Entry.carriedFrom i es = (es.zipIdx i).flatMap fun ei => ei.1.carried ei.2 := by
  induction es with
  | nil => exact fun i => rfl
  | cons e es ih => exact fun i => by rw [Entry.carriedFrom, ih, List.zipIdx_cons, List.flatMap_cons]

theorem State.takeRequest_readEntry {s : State} {p : Port} {r : Request} {hi lo : Byte} (hands : s.hands p r 0x06)
    (bytes : r.params = [hi, lo]) :
    exec (.readEntry p) s = .next (s.afterJudging p r
      [(!(s.portRole p).read, .noRight), ((s.entry? (hi ++ lo)).isNone, .unknownEntry)]
      (State.respond p r (match s.entry? (hi ++ lo) with
        | some e => Reply.answer (s.unqueues p) .accepted (e.carried (s.indexOf (hi ++ lo)))
        | none => Reply.refuse (s.unqueues p) .unknownEntry))) := by
  show Host.Outcome.next (s.takeRequest p 0x06 (State.judgeReadEntry p)) = _
  rw [State.takeRequest_of_hands hands, State.judgeReadEntry, bytes]
  simp only [State.respond_judge]
  rfl

/-- Settles O14. -/
theorem entriesAreRead : Obligations.EntriesAreRead := by
  refine fun p r s => ⟨fun hi lo hands bytes => ⟨fun absent => ?_, fun e held => ?_⟩, fun index count hands bytes => ?_⟩
  · rw [State.takeRequest_readEntry hands bytes, absent]
    cases read : (s.portRole p).read with
    | true => rw [State.afterJudging_of_lowest (c := .unknownEntry) (by simp) (by simp)]; rfl
    | false =>
      rw [State.afterJudging_of_lowest (c := .noRight) (by simp) (by simp [Result.code])]
      rfl
  · rw [State.takeRequest_readEntry hands bytes, held]
    simp only [State.respond_answer]
    refine congrArg Host.Outcome.next (State.afterJudging_congr_failing (fun c => ?_) s p r _)
    simp
  · show Host.Outcome.next (s.takeRequest p 0x07 (State.judgeReadRegister p)) = _
    have carried : Entry.carriedFrom index.toNat ((s.list.entries.drop index.toNat).take count.toNat) =
        ((s.list.entries.zipIdx.drop index.toNat).take count.toNat).flatMap fun ei => ei.1.carried ei.2 := by
      rw [Entry.carriedFrom_eq, Entry.drop_zipIdx, Entry.take_zipIdx, Nat.zero_add]
    rw [State.takeRequest_of_hands hands, State.judgeReadRegister, bytes]
    simp only [State.respond_judge, State.respond_answer, Operands.not_countInRange, State.unqueues_ofPort,
      State.unqueues_keeps, State.lacksRead_eq, carried, Operands.carry1, List.cons_append, List.nil_append]

/-! ### READ PASSAGES, READ COUNTERS, READ STATE (R63, R151, R152) -/

theorem State.counters_eq (s : State) : s.counters =
    [s.list.created, s.list.departed, s.list.flushed, s.passages.taken, s.passages.discarded, s.detector.candidates,
        s.detector.rejects, s.lanes.a.squeezes, s.lanes.b.squeezes, s.lanes.c.squeezes, s.lanes.d.squeezes].flatMap
        Operands.carry4 ++
      Port.all.flatMap fun i =>
        Operands.carry2 (s.ports.get i).frameErrors.count ++ Operands.carry2 (s.ports.get i).overruns.count ++
          [BitVec.ofNat 8 ((s.ports.get i).frameErrors.full.toNat + 2 * (s.ports.get i).overruns.full.toNat)] := by
  have port (v : PortState) : v.counters = Operands.carry2 v.frameErrors.count ++ Operands.carry2 v.overruns.count ++
      [BitVec.ofNat 8 (v.frameErrors.full.toNat + 2 * v.overruns.full.toNat)] := by
    unfold PortState.counters
    cases v.frameErrors.full <;> cases v.overruns.full <;> rfl
  simp only [← port]
  simp only [State.counters, List.flatMap_cons, List.flatMap_nil, List.append_nil, List.append_assoc, PerLane.toList]
  rfl

theorem State.unqueues_allCounters (s : State) (p : Port) : (s.unqueues p).counters = s.counters := by
  simp only [State.counters_eq, State.unqueues_counters, State.unqueues_keeps]

/-- A byte names the lane of its code alone. -/
theorem Lane.ofCode?_eq {b : Byte} {x : Lane} (named : b.toNat = Lane.code x) : Lane.ofCode? b = some x := by
  obtain rfl : b = BitVec.ofNat 8 (Lane.code x) := by rw [← named]; simp
  cases x <;> rfl

theorem Lane.ofCode?_eq_none {b : Byte} (beyond : 3 < b.toNat) : Lane.ofCode? b = none := by
  refine List.find?_eq_none.2 fun x _ => ?_
  rw [decide_eq_true_eq]
  rintro rfl
  cases x <;> simp [Lane.code] at beyond

/-! ### READ SETTING (R156) -/

theorem Setting.ofNumber?_number (k : Setting) : Setting.ofNumber? k.number = some k := by
  cases k with
  | defaultNeed x => cases x <;> rfl
  | laneOffset x => cases x <;> rfl
  | tdnPolarity x => cases x <;> rfl
  | _ => rfl

theorem Setting.number_bounds (k : Setting) : 1 ≤ k.number ∧ k.number ≤ 36 := by
  cases k with
  | defaultNeed x => cases x <;> decide
  | laneOffset x => cases x <;> decide
  | tdnPolarity x => cases x <;> decide
  | _ => decide

theorem Setting.ofNumber?_eq_none {n : Nat} (outside : n < 1 ∨ 36 < n) : Setting.ofNumber? n = none := by
  refine List.find?_eq_none.2 fun k _ => ?_
  have := k.number_bounds
  rw [decide_eq_true_eq]
  omega

theorem Settings.read?_number (s : Settings) (k : Setting) : s.read? k.number = some (s.get k) := by
  rw [Settings.read?, Setting.ofNumber?_number]

/-- The numbers 40 to 45 name the ports (R156). -/
theorem Settings.read?_port (s : Settings) (p : Port) :
    s.read? (40 + Port.number p) = some (s.roles.get p).carriedValue := by
  rw [Settings.read?, Setting.ofNumber?_eq_none (by omega)]
  cases p <;> rfl

theorem Settings.read?_eq_none {s : Settings} {n : Nat} (outside : n = 0 ∨ (36 < n ∧ n < 40) ∨ 45 < n) :
    s.read? n = none := by
  rw [Settings.read?, Setting.ofNumber?_eq_none (by omega)]
  have none_named : Port.all.find? (fun p => 40 + Port.number p = n) = none := by
    refine List.find?_eq_none.2 fun p _ => ?_
    have : Port.number p ≤ 5 := by cases p <;> decide
    rw [decide_eq_true_eq]
    omega
  rw [none_named]
  rfl

theorem PortRole.carriedValue_eq (r : PortRole) : r.carriedValue =
    256 * r.role.code + (if r.setup then 1 else 0) + (if r.freeze then 2 else 0) + (if r.read then 4 else 0) := by
  unfold PortRole.carriedValue PortRole.rightsCode
  cases r.setup <;> cases r.freeze <;> cases r.read <;> simp <;> omega

theorem Polarity.code_eq (p : Polarity) : p.code = if p = .activeLow then 1 else 0 := by cases p <;> rfl

theorem DirectionSign.code_eq (d : DirectionSign) : d.code = if d = .highReverse then 1 else 0 := by cases d <;> rfl

theorem EdgeMode.code_eq (m : EdgeMode) : m.code = if m = .leading then 0 else if m = .trailing then 1 else 2 := by
  cases m <;> rfl

theorem Operands.laneSet_eq (v : PerLane Bool) : (Operands.laneSet v : Int) =
    (if v.a then 1 else 0) + (if v.b then 2 else 0) + (if v.c then 4 else 0) + (if v.d then 8 else 0) := by
  obtain ⟨a, b, c, d⟩ := v
  revert a b c d
  decide

/-- Settles O15. -/
theorem stateAndRecordsAreRead : Obligations.StateAndRecordsAreRead := by
  refine ⟨fun p r s none_given => ⟨fun hands => ?_, fun hands => ?_⟩, fun p r s b byte =>
    ⟨fun hands => ?_, fun hands v value => ?_, fun hands unnamed => ?_, fun hands x named => ?_, fun hands beyond => ?_⟩,
    fun s => ?_⟩
  · show Host.Outcome.next (s.takeRequest p 0x02 State.judgeReadState) = _
    rw [State.takeRequest_of_hands hands, State.judgeReadState, none_given]
    simp only [State.respond_answer, State.unqueues_conditions, State.unqueues_keeps]
  · show Host.Outcome.next (s.takeRequest p 0x09 (State.judgeReadCounters p)) = _
    rw [State.takeRequest_of_hands hands, State.judgeReadCounters, none_given]
    simp only [State.respond_judge, State.respond_answer, State.unqueues_ofPort, State.lacksRead_eq,
      State.unqueues_allCounters]
    rw [State.counters_eq]
  · show Host.Outcome.next (s.takeRequest p 0x08 (State.judgeReadPassages p)) = _
    rw [State.takeRequest_of_hands hands, State.judgeReadPassages, byte]
    simp only [State.respond_judge, State.respond_answer, State.unqueues_ofPort, State.lacksRead_eq,
      Operands.not_countInRange, State.unqueues_keeps, PassageList.reply, Operands.carry1, List.length_take,
      List.cons_append, List.nil_append, List.append_assoc]
  · show Host.Outcome.next (s.takeRequest p 0x0A (State.judgeReadSetting p)) = _
    rw [State.takeRequest_of_hands hands, State.judgeReadSetting, byte]
    simp only [State.unqueues_conditions, value, State.respond_judge, State.respond_answer, State.unqueues_ofPort,
      State.lacksRead_eq]
  · show Host.Outcome.next (s.takeRequest p 0x0A (State.judgeReadSetting p)) = _
    rw [State.takeRequest_of_hands hands, State.judgeReadSetting, byte]
    simp only [State.unqueues_conditions, unnamed, State.respond_refuse]
  · show Host.Outcome.next (s.takeRequest p 0x0B (State.judgeReadFault p)) = _
    rw [State.takeRequest_of_hands hands, State.judgeReadFault, byte]
    simp only [Lane.ofCode?_eq named, State.respond_judge, State.respond_answer, State.unqueues_ofPort,
      State.lacksRead_eq, State.unqueues_ofLane]
  · show Host.Outcome.next (s.takeRequest p 0x0B (State.judgeReadFault p)) = _
    rw [State.takeRequest_of_hands hands, State.judgeReadFault, byte]
    simp only [Lane.ofCode?_eq_none beyond, State.respond_refuse]
  · intro bit low
    refine ⟨?_, fun p => ?_, fun n outside => Settings.read?_eq_none outside⟩
    · have numbers : List.range' 1 36 = Setting.all.map Setting.number := rfl
      have values : (List.range' 1 36).map s.read? = (Setting.all.map s.get).map some := by
        rw [numbers, List.map_map, List.map_map]
        exact List.map_congr_left fun k _ => s.read?_number k
      rw [values]
      congr 1
      simp only [Setting.all, List.map_cons, List.map_nil, List.cons_append, List.nil_append, Settings.get, PerLane.get,
        Operands.laneSet_eq, Polarity.code_eq, DirectionSign.code_eq, EdgeMode.code_eq, bit, low]
    · rw [Settings.read?_port, PortRole.carriedValue_eq]

end Sys2Proof.Machine
end

section
/-! PROOFS. The layouts of R144 and R145: which field stands at which offset, and how numbers are carried. -/

namespace Sys2Proof.Machine

/-! ### Numbers, most significant byte first (R144) -/

/-- The number that bytes spell, most significant first. -/
def Operands.spelled (bytes : List Byte) : Nat := bytes.foldl (fun n b => 256 * n + b.toNat) 0

theorem Operands.spelled_carry2 (w : BitVec 16) : Operands.spelled (Operands.carry2 w) = w.toNat := by
  have := w.isLt
  simp only [Operands.spelled, Operands.carry2, List.foldl_cons, List.foldl_nil, BitVec.extractLsb'_toNat,
    Nat.shiftRight_eq_div_pow]
  omega

theorem Operands.spelled_carry4 (w : BitVec 32) : Operands.spelled (Operands.carry4 w) = w.toNat := by
  have := w.isLt
  simp only [Operands.spelled, Operands.carry4, List.foldl_cons, List.foldl_nil, BitVec.extractLsb'_toNat,
    Nat.shiftRight_eq_div_pow]
  omega

theorem Operands.spelled_carryEvents (w : BitVec 24) : Operands.spelled (Operands.carryEvents w) = w.toNat := by
  have := w.isLt
  simp only [Operands.spelled, Operands.carryEvents, List.foldl_cons, List.foldl_nil, BitVec.extractLsb'_toNat,
    Nat.shiftRight_eq_div_pow]
  omega

/-! ### Packed bytes (R145) -/

/-- Two values of two bits and four bits above them make one number. -/
theorem LaneRecord.packed (mask : BitVec 4) {squeezes need : Nat} (fits : squeezes ≤ 3) (fits' : need ≤ 3) :
    (mask ++ (BitVec.ofNat 2 squeezes ++ BitVec.ofNat 2 need : BitVec 4) : Byte) =
      BitVec.ofNat 8 (need + 4 * squeezes + 16 * mask.toNat) := by
  have := mask.isLt
  have low : squeezes <<< 2 ||| need = 4 * squeezes + need := by
    rw [← Nat.shiftLeft_add_eq_or_of_lt (by omega), Nat.shiftLeft_eq]
    omega
  apply BitVec.eq_of_toNat_eq
  rw [BitVec.toNat_append, BitVec.toNat_append]
  simp only [BitVec.toNat_ofNat]
  rw [Nat.mod_eq_of_lt (by omega : squeezes < 2 ^ 2), Nat.mod_eq_of_lt (by omega : need < 2 ^ 2), low,
    ← Nat.shiftLeft_add_eq_or_of_lt (by omega), Nat.shiftLeft_eq]
  omega

theorem Operands.seenKind_eq {seen : Nat} (fits : seen ≤ 15) (kind : Kind) :
    Operands.seenKind seen kind = BitVec.ofNat 8 (seen + 16 * kind.code) := by
  have small : kind.code ≤ 2 := by cases kind <;> decide
  apply BitVec.eq_of_toNat_eq
  rw [Operands.seenKind, BitVec.toNat_append]
  simp only [BitVec.toNat_ofNat]
  rw [Nat.mod_eq_of_lt (by omega : kind.code < 2 ^ 4), Nat.mod_eq_of_lt (by omega : seen < 2 ^ 4),
    ← Nat.shiftLeft_add_eq_or_of_lt (by omega)]
  simp only [Nat.shiftLeft_eq]
  omega

theorem LaneRecord.length_carried (r : LaneRecord) : r.carried.length = 2 := rfl

theorem PassageLane.length_carried (r : PassageLane) : r.carried.length = 2 := rfl

theorem State.length_counters (s : State) : s.counters.length = 74 := by
  simp [State.counters_eq, Port.all, Operands.carry4]

/-- Settles O16: every layout is a list of known length, so a field is read off by its offset. -/
theorem layoutsCarryTheirFields : Obligations.LayoutsCarryTheirFields := by
  refine ⟨?_, ?_⟩
  · intro field bit seq
    refine ⟨fun s => ?_, fun e i seen => ?_, fun r seen => ?_, fun f => ?_, fun x l => ?_, State.length_counters,
      fun r need squeezes => ?_, fun r need squeezes => ?_⟩
    · refine ⟨s.length_stateBlock, rfl, rfl, rfl, rfl, rfl, rfl, ?_, rfl, rfl, rfl⟩
      have held : (!s.list.entries.isEmpty) = decide (s.list.entries ≠ []) := by
        cases s.list.entries <;> rfl
      rw [← held]
      rfl
    · refine ⟨rfl, rfl, rfl, rfl, ?_, ?_, rfl⟩
      · rw [← Operands.seenKind_eq seen]
        rfl
      · have target : field (e.carried i) 11 4 = (e.target.getD ⟨0, 0, 0⟩).carried := rfl
        rw [target]
        cases e.target <;> rfl
    · refine ⟨rfl, rfl, rfl, rfl, ?_, rfl⟩
      rw [← Operands.seenKind_eq seen]
      rfl
    · cases f with | mk state cause source axis seq further last => cases last <;> cases seq <;> rfl
    · obtain ⟨state, tdn, debounce, fault, squeezes⟩ := l
      cases fault with
      | none => rfl
      | some f => cases f with | mk cause named axis detail second => cases named <;> rfl
    · rw [LaneRecord.carried, LaneRecord.packed r.mask squeezes need]
    · rw [PassageLane.carried, LaneRecord.packed 0#4 squeezes need]
      rfl
  · refine ⟨fun w => ⟨rfl, Operands.spelled_carry2 w⟩, fun w => ⟨rfl, Operands.spelled_carry4 w⟩,
      fun w => ⟨rfl, Operands.spelled_carryEvents w⟩, fun i => rfl, Operands.carryAxis_signed4, fun v => ?_, fun r => ?_,
      rfl, rfl, rfl, rfl, rfl, rfl, rfl, fun q ms => rfl, fun q t ms o => rfl, fun start d => rfl, rfl, rfl, rfl,
      fun p x => ?_, rfl, rfl⟩
    · obtain ⟨a, b, c, d⟩ := v
      cases a <;> cases b <;> cases c <;> cases d <;> rfl
    · obtain ⟨role, setup, freeze, read⟩ := r
      cases setup <;> cases freeze <;> cases read <;> rfl
    · cases p <;> cases x <;> rfl

end Sys2Proof.Machine
end

section
/-! PROOFS. The Sleeper List decides an offer (R25 to R29, R34). -/

namespace Sys2Proof.Machine

/-! ### The nearest entry (R26) -/

theorem SleeperList.nearest_spec {c w : Int} {es : List Entry} {f : Entry} (h : SleeperList.nearest c w es = some f) :
    f ∈ es ∧ Flags.within f.position c w = true := by
  induction es generalizing f with
  | nil => simp [SleeperList.nearest] at h
  | cons e es ih =>
    have later {g : Entry} (hg : SleeperList.nearest c w es = some g) : g ∈ e :: es ∧ Flags.within g.position c w = true :=
      ⟨List.mem_cons_of_mem e (ih hg).1, (ih hg).2⟩
    unfold SleeperList.nearest at h
    dsimp only at h
    split at h
    next near =>
      split at h
      next => exact Option.some.inj h ▸ ⟨List.mem_cons_self, near⟩
      next g found =>
        split at h
        · exact later (found.trans h)
        · exact Option.some.inj h ▸ ⟨List.mem_cons_self, near⟩
    next => exact later h

theorem SleeperList.nearest_eq_none {c w : Int} {es : List Entry}
    (apart : ∀ e ∈ es, Flags.within e.position c w = false) : SleeperList.nearest c w es = none := by
  refine Option.eq_none_iff_forall_ne_some.2 fun f found => ?_
  obtain ⟨mem, near⟩ := SleeperList.nearest_spec found
  exact absurd (near.symm.trans (apart f mem)) (by simp)

/-- Entry e lies nearer to the centre than f, or as near and not above it (R26). -/
def Entry.precedes (c : Int) (e f : Entry) : Prop :=
  (e.position - c).natAbs < (f.position - c).natAbs ∨
    ((e.position - c).natAbs = (f.position - c).natAbs ∧ e.position ≤ f.position)

/-- In rising position the first of two equally near entries is the lower one, so the entry that precedes every entry
within the window is the one found. -/
theorem SleeperList.nearest_eq_some {c w : Int} {es : List Entry} (rising : SleeperList.rising es) {e : Entry}
    (mem : e ∈ es) (near : Flags.within e.position c w = true)
    (first : ∀ f ∈ es, Flags.within f.position c w = true → e.precedes c f) : SleeperList.nearest c w es = some e := by
  induction es with
  | nil => simp at mem
  | cons g es ih =>
    obtain ⟨above, rising'⟩ := List.pairwise_cons.1 rising
    unfold SleeperList.nearest
    dsimp only
    rcases List.mem_cons.1 mem with rfl | mem'
    · rw [near]
      cases found : SleeperList.nearest c w es with
      | none => rfl
      | some f =>
        obtain ⟨f_mem, f_near⟩ := SleeperList.nearest_spec found
        have not_nearer : ¬ (f.position - c).natAbs < (e.position - c).natAbs := by
          rcases first f (List.mem_cons_of_mem e f_mem) f_near with lt | ⟨eq, -⟩ <;> omega
        simp [not_nearer]
    · rw [ih rising' mem' fun f f_mem => first f (List.mem_cons_of_mem g f_mem)]
      cases g_near : Flags.within g.position c w with
      | false => rfl
      | true =>
        have below := above e mem'
        have nearer : (e.position - c).natAbs < (g.position - c).natAbs := by
          rcases first g List.mem_cons_self g_near with lt | ⟨-, le⟩ <;> omega
        simp [nearer]

/-! ### A new entry's place (R37) -/

theorem SleeperList.insert_above {e : Entry} {es : List Entry} (above : ∀ f ∈ es, f.position < e.position) :
    SleeperList.insert e es = es ++ [e] := by
  induction es with
  | nil => rfl
  | cons f es ih =>
    have below : ¬ e.position < f.position := by have := above f List.mem_cons_self; omega
    rw [SleeperList.insert, if_neg below, ih fun g mem => above g (List.mem_cons_of_mem f mem), List.cons_append]

theorem State.isTailPosition_eq_true (s : State) (c : Int) :
    s.isTailPosition c = true ↔ ∀ e ∈ s.list.entries, e.position < c := by
  simp [State.isTailPosition]

/-! ### The tail tests (R27) -/

theorem State.tailRejects_eq_true (s : State) (c : Int) : s.tailRejects c = true ↔ 2147000000 < c ∨
    ∃ e, s.list.entries.getLast? = some e ∧ (c ≤ e.position ∨ c - e.position < s.live.minimumSpacing) := by
  unfold State.tailRejects
  cases s.list.entries.getLast? <;> simp [or_comm]

/-- A candidate that the tail does not reject lies above the tail, and so above every entry. -/
theorem State.above_of_not_tailRejects {s : State} (rising : SleeperList.rising s.list.entries) {c : Int}
    (passes : s.tailRejects c = false) : ∀ e ∈ s.list.entries, e.position < c := by
  intro e mem
  obtain ⟨last, last_eq⟩ : ∃ last, s.list.entries.getLast? = some last := by
    cases h : s.list.entries.getLast? with
    | none => simp [List.getLast?_eq_none_iff.1 h] at mem
    | some last => exact ⟨last, rfl⟩
  have below := SleeperList.le_last rising last_eq e mem
  have passes' := (Bool.eq_false_iff.1 passes) ∘ (s.tailRejects_eq_true c).2
  have : ¬ c ≤ last.position := fun le => passes' (.inr ⟨last, last_eq, .inl le⟩)
  omega

/-! ### The decision (R26 to R29) -/

theorem State.decideOffer_of_near {s : State} {c : Int} {e : Entry} (w : Nat)
    (found : SleeperList.nearest c s.live.captureWindow s.list.entries = some e) :
    s.decideOffer c w = s.updateEntry e.seq fun f => { f with seen := min (f.seen + 1) 15 } := by
  simp only [State.decideOffer, found]

theorem State.decideOffer_of_apart {s : State} {c : Int} (w : Nat)
    (apart : SleeperList.nearest c s.live.captureWindow s.list.entries = none) :
    s.decideOffer c w = if s.tailRejects c then s.rejectCandidate
      else if 48 ≤ s.list.entries.length then s.loseCandidate else s.create c w .detected := by
  simp only [State.decideOffer, apart]

/-- A new tail takes the pending gap and clears it (R29). -/
theorem State.create_tail {s : State} {c : Int} (w : Nat) (o : Origin)
    (above : ∀ e ∈ s.list.entries, e.position < c) :
    s.create c w o = ({ s with list := { s.list with
      entries := s.list.entries ++ [s.newEntry c w o s.list.pendingGap]
      nextSeq := s.list.takenSeq + 1
      pendingGap := false
      created := s.list.created + 1 } } : State).raise .entryAdded := by
  unfold State.create
  rw [(s.isTailPosition_eq_true c).2 above]
  dsimp only
  rw [SleeperList.insert_above above, Bool.true_and, Bool.not_true, Bool.and_false]
  rfl

/-- Settles O21. The offer is counted first; which case of R26 to R29 holds does not depend on the count. -/
theorem offerIsDecided : Obligations.OfferIsDecided := by
  refine ⟨fun s c w ordered => ?_, fun l few => SleeperList.takenSeq_spec few⟩
  obtain ⟨-, -, rising⟩ := ordered
  intro counted near tailRejects
  have near_iff (e : Entry) : near e ↔ Flags.within e.position c s.live.captureWindow = true :=
    (Flags.within_eq_true _ _ _).symm
  have tail_iff : tailRejects ↔ counted.tailRejects c = true := (counted.tailRejects_eq_true c).symm
  have apart (h : ∀ e ∈ s.list.entries, ¬ near e) :
      SleeperList.nearest c counted.live.captureWindow counted.list.entries = none :=
    SleeperList.nearest_eq_none fun e mem => Bool.eq_false_iff.2 fun within => h e mem ((near_iff e).2 within)
  refine ⟨fun e mem e_near first => ?_, fun h rejects => ?_, fun h passes full => ?_, fun h passes room => ?_⟩
  · exact State.decideOffer_of_near (s := counted) w (SleeperList.nearest_eq_some rising mem ((near_iff e).1 e_near)
      fun f f_mem f_near => first f f_mem ((near_iff f).2 f_near))
  · show counted.decideOffer c w = _
    rw [State.decideOffer_of_apart w (apart h), if_pos (tail_iff.1 rejects)]
    rfl
  · show counted.decideOffer c w = _
    rw [State.decideOffer_of_apart w (apart h), if_neg (passes ∘ tail_iff.2),
      if_pos (show 48 ≤ counted.list.entries.length from Nat.le_of_eq full.symm)]
    rfl
  · show counted.decideOffer c w = _
    rw [State.decideOffer_of_apart w (apart h), if_neg (passes ∘ tail_iff.2),
      if_neg (show ¬ 48 ≤ counted.list.entries.length from Nat.not_le.2 room), State.create_tail w .detected
        (State.above_of_not_tailRejects (s := counted) rising (Bool.eq_false_iff.2 (passes ∘ tail_iff.2)))]
    rfl

end Sys2Proof.Machine
end

section
/-! PROOFS. Retirement (R48 to R52) and what the Passage List keeps (R61, R62). -/

namespace Sys2Proof.Machine

/-! ### Events that are only raised (R146) -/

theorem State.raisesOnly_of_events {s t : State} (same : t.events = s.events) (es : List Event) : s.raisesOnly t es := by
  intro p
  rw [same]
  exact ⟨rfl, rfl, rfl, fun i => ⟨id, .inl⟩⟩

theorem State.raisesOnly_refl (s : State) (es : List Event) : s.raisesOnly s es := State.raisesOnly_of_events rfl es

theorem State.raisesOnly_trans {s t u : State} {es : List Event} (first : s.raisesOnly t es)
    (second : t.raisesOnly u es) : s.raisesOnly u es := by
  intro p
  obtain ⟨mask, interval, timer, bits⟩ := first p
  obtain ⟨mask', interval', timer', bits'⟩ := second p
  refine ⟨mask'.trans mask, interval'.trans interval, timer'.trans timer, fun i => ⟨(bits' i).1 ∘ (bits i).1, fun set => ?_⟩⟩
  rcases (bits' i).2 set with old | new
  · exact (bits i).2 old
  · exact .inr new

theorem State.raisesOnly_mono {s t : State} {es fs : List Event} (raises : s.raisesOnly t es) (sub : es ⊆ fs) :
    s.raisesOnly t fs := by
  intro p
  obtain ⟨mask, interval, timer, bits⟩ := raises p
  exact ⟨mask, interval, timer, fun i => ⟨(bits i).1, fun set => ((bits i).2 set).imp_right
    fun mem => List.map_subset Event.number sub mem⟩⟩

theorem State.raisesOnly_raise (s : State) {e : Event} {es : List Event} (mem : e ∈ es) : s.raisesOnly (s.raise e) es := by
  intro p
  rw [State.raise, PerPort.get_ofFn]
  split
  · refine ⟨rfl, rfl, rfl, fun i => ?_⟩
    have bounds := e.number_bounds
    have bit : e.bit.getLsbD i = true ↔ i.val = e.number - 1 := by simp [Event.bit, eq_comm]
    rw [EventPort.latch, BitVec.getLsbD_or, Bool.or_eq_true, bit]
    refine ⟨.inl, .imp_right fun here => ?_⟩
    rw [here, Nat.sub_add_cancel bounds.1]
    exact List.mem_map_of_mem mem
  · exact State.raisesOnly_refl s es p

/-! ### The Passage List takes records (R61, R62) -/

theorem State.takeRecord_passages (s : State) (r : PassageRecord) : (s.takeRecord r).passages = s.passages.takes r := by
  unfold State.takeRecord PassageList.takes
  split <;> rfl

theorem State.depart_passages (s : State) (e : Entry) (rest : List Entry) (o : PassageOutcome) :
    (s.depart e rest o).passages = s.passages.takes (e.passage o) := by
  rw [State.depart, (State.raise_keeps _ _).2.2.2.1, State.takeRecord_passages]

theorem State.depart_list (s : State) (e : Entry) (rest : List Entry) (o : PassageOutcome) :
    (s.depart e rest o).list = { s.list with entries := rest, departed := s.list.departed + 1 } := by
  rw [State.depart, (State.raise_keeps _ _).2.2.1, (State.takeRecord_keeps _ _).2.2.1]

theorem PassageList.length_takes {l : PassageList} (room : l.records.length ≤ 32) (r : PassageRecord) :
    (l.takes r).records.length = min (l.records.length + 1) 32 := by
  unfold PassageList.takes
  split <;> simp <;> omega

/-- Counting one, then n, counts n + 1. -/
theorem Count32.add_one_add (c : Count32) (n : Nat) : c + 1 + BitVec.ofNat 32 n = c + BitVec.ofNat 32 (n + 1) := by
  rw [Nat.add_comm n 1, BitVec.ofNat_add, BitVec.add_assoc]
  rfl

/-- Of the records held and those taken, the 32 newest stay, and the others count as discarded (R62). -/
theorem PassageList.foldl_takes (rs : List PassageRecord) : ∀ {l : PassageList}, l.records.length ≤ 32 →
    rs.foldl PassageList.takes l = { l with
      records := (l.records ++ rs).drop ((l.records ++ rs).length - 32)
      discarded := l.discarded + BitVec.ofNat 32 ((l.records ++ rs).length - 32) } := by
  induction rs with
  | nil =>
    intro l room
    have none_over : (l.records ++ []).length - 32 = 0 := by simp; omega
    rw [List.foldl_nil, none_over]
    simp
  | cons r rs ih =>
    intro l room
    rw [List.foldl_cons, ih (by rw [PassageList.length_takes room]; omega), PassageList.takes]
    split
    next few => simp
    next full =>
      have full : l.records.length = 32 := by omega
      obtain ⟨oldest, rest, records⟩ := List.exists_cons_of_length_pos (l := l.records) (by omega)
      have length : rest.length = 31 := by simpa [records] using full
      simp only [records, List.tail_cons, List.cons_append, List.append_assoc, List.nil_append, List.length_append,
        List.length_cons, length]
      rw [show 31 + (rs.length + 1) + 1 - 32 = rs.length + 1 by omega, show 31 + (rs.length + 1) - 32 = rs.length by omega,
        List.drop_succ_cons, Count32.add_one_add]

/-! ### What departures and a straggler latch (R49, R52, R62) -/

theorem State.hasLatched_takeRecord (s : State) (r : PassageRecord) (p : Port) (f : Event) :
    (s.takeRecord r).hasLatched p f ↔ s.hasLatched p f ∨ (Event.passageOverflow.number = f.number ∧
      Event.passageOverflow.targets p (s.portRole p) = true ∧ 32 ≤ s.passages.records.length) := by
  unfold State.takeRecord
  split
  next few => exact (or_iff_left fun full => Nat.not_le.2 few full.2.2).symm
  next full =>
    refine (State.hasLatched_raise _ .passageOverflow f p).trans (or_congr .rfl (and_congr .rfl ?_))
    exact (and_iff_left (Nat.not_lt.1 full)).symm

theorem State.hasLatched_departs (s : State) (e : Entry) (rest : List Entry) (o : PassageOutcome) (p : Port) (f : Event) :
    (s.depart e rest o).hasLatched p f ↔ s.hasLatched p f ∨
      (Event.passageOverflow.number = f.number ∧ Event.passageOverflow.targets p (s.portRole p) = true ∧
        32 ≤ s.passages.records.length) ∨
      (Event.entryDeparted.number = f.number ∧ Event.entryDeparted.targets p (s.portRole p) = true) := by
  rw [State.depart, State.hasLatched_raise, State.hasLatched_takeRecord, or_assoc]
  simp only [State.portRole, State.live, State.takeRecord_keeps]
  rfl

theorem State.hasLatched_holdBack (s : State) (e : Entry) (rest : List Entry) (p : Port) (f : Event) :
    (s.holdBack e rest).hasLatched p f ↔ s.hasLatched p f ∨ (Event.straggler.number = f.number ∧
      Event.straggler.targets p (s.portRole p) = true ∧ e.deferred = false) := by
  unfold State.holdBack
  cases e.deferred with
  | true => simp
  | false =>
    refine (State.hasLatched_raise _ .straggler f p).trans (or_congr .rfl (and_congr .rfl ?_))
    exact (and_iff_left rfl).symm

/-! ### Retirement from the head (R48 to R50) -/

/-- The entry leaves the list when retirement reaches it: it is due and not held back (R48, R49). -/
def State.leaves (s : State) (a : Int) (e : Entry) : Bool := s.isDue a e && !s.isHeldBack e

/-- The head that stops retirement: where it is due it is held back, and is marked deferred (R49). -/
def State.deferHead (s : State) (a : Int) : List Entry → List Entry
  | [] => []
  | e :: rest => { e with deferred := e.deferred || s.isDue a e } :: rest

/-- The records of the entries that leave. -/
def State.passagesOf (s : State) (es : List Entry) : List PassageRecord := es.map fun e => e.passage (s.outcome e)

section
variable (s : State) (d : Entry) (rest : List Entry) (o : PassageOutcome)

theorem State.depart_leaves (a : Int) : (s.depart d rest o).leaves a = s.leaves a := by
  funext e
  simp only [State.leaves, State.isDue, State.isHeldBack, State.live, State.depart_keeps]
  rfl

theorem State.depart_isDue (a : Int) : (s.depart d rest o).isDue a = s.isDue a := by
  funext e
  simp only [State.isDue, State.live, State.depart_keeps]
  rfl

theorem State.depart_deferHead (a : Int) (es : List Entry) :
    (s.depart d rest o).deferHead a es = s.deferHead a es := by
  cases es with
  | nil => rfl
  | cons e es => rw [State.deferHead, State.deferHead, State.depart_isDue]

theorem State.depart_passagesOf (es : List Entry) : (s.depart d rest o).passagesOf es = s.passagesOf es := by
  refine List.map_congr_left fun e _ => ?_
  simp only [State.outcome, State.workingLane, State.isFitted, State.live, State.depart_keeps]
  rfl

theorem State.depart_portRole (p : Port) : (s.depart d rest o).portRole p = s.portRole p := by
  simp only [State.portRole, State.live, State.depart_keeps]

end

theorem State.holdBack_list {s : State} {e : Entry} {rest : List Entry} (held : s.list.entries = e :: rest) :
    (s.holdBack e rest).list = { s.list with entries := { e with deferred := true } :: rest } := by
  unfold State.holdBack
  split
  next marked =>
    rw [← marked, ← held]
  next => rfl

/-- The head of the list stands where it is, goes on waiting, or departs; after it the same holds of the rest. -/
theorem State.retireFrom_cons (a : Int) (e : Entry) (rest : List Entry) (s : State) :
    State.retireFrom a (e :: rest) s =
      if s.leaves a e then State.retireFrom a rest (s.depart e rest (s.outcome e))
      else if s.isDue a e then s.holdBack e rest else s := by
  rw [State.retireFrom, State.leaves]
  cases s.isDue a e <;> cases s.isHeldBack e <;> rfl

theorem State.retireFrom_passages (a : Int) (es : List Entry) : ∀ s : State,
    (State.retireFrom a es s).passages = (s.passagesOf (es.takeWhile (s.leaves a))).foldl PassageList.takes s.passages := by
  induction es with
  | nil => exact fun s => rfl
  | cons e rest ih =>
    intro s
    rw [State.retireFrom_cons, List.takeWhile_cons]
    split
    · rw [ih, State.depart_leaves, State.depart_passagesOf, State.depart_passages]
      rfl
    · split
      · rw [(State.holdBack_keeps s e rest).2.2.1]
        rfl
      · rfl

theorem State.retireFrom_list (a : Int) (es : List Entry) : ∀ s : State, s.list.entries = es →
    (State.retireFrom a es s).list = { s.list with
      entries := s.deferHead a (es.dropWhile (s.leaves a))
      departed := s.list.departed + BitVec.ofNat 32 (es.takeWhile (s.leaves a)).length } := by
  induction es with
  | nil =>
    intro s empty
    have unchanged : s.list = { s.list with entries := [] } := by rw [← empty]
    simpa [State.retireFrom, State.deferHead] using unchanged
  | cons e rest ih =>
    intro s held
    rw [State.retireFrom_cons, List.takeWhile_cons, List.dropWhile_cons]
    split
    · have left : (s.depart e rest (s.outcome e)).list.entries = rest := by rw [State.depart_list]
      rw [ih _ left, State.depart_leaves, State.depart_deferHead, State.depart_list]
      simp only [List.length_cons, Count32.add_one_add]
    · split
      next due =>
        rw [State.holdBack_list held, State.deferHead, due, Bool.or_true]
        simp
      next not_due =>
        rw [State.deferHead, Bool.eq_false_iff.2 not_due, Bool.or_false]
        simp only [List.length_nil, BitVec.add_zero]
        rw [← held]

theorem State.hasLatched_retireFrom_departed (a : Int) (p : Port) (es : List Entry) : ∀ s : State,
    (State.retireFrom a es s).hasLatched p .entryDeparted ↔ s.hasLatched p .entryDeparted ∨
      (Event.entryDeparted.targets p (s.portRole p) = true ∧ es.takeWhile (s.leaves a) ≠ []) := by
  induction es with
  | nil => exact fun s => (or_iff_left fun gone => gone.2 rfl).symm
  | cons e rest ih =>
    intro s
    rw [State.retireFrom_cons, List.takeWhile_cons]
    split
    · rw [ih, State.hasLatched_departs, State.depart_portRole]
      simp only [Event.number, ne_eq, reduceCtorEq, not_false_eq_true, and_true, true_and, Nat.reduceEqDiff, false_and,
        false_or]
      refine ⟨fun raised => ?_, .inl⟩
      rcases raised with known | ⟨target, -⟩
      · exact known
      · exact .inr target
    · split
      · simp [State.hasLatched_holdBack, Event.number]
      · simp

theorem State.hasLatched_retireFrom_overflow (a : Int) (p : Port) (es : List Entry) : ∀ s : State,
    s.passages.records.length ≤ 32 →
    ((State.retireFrom a es s).hasLatched p .passageOverflow ↔ s.hasLatched p .passageOverflow ∨
      (Event.passageOverflow.targets p (s.portRole p) = true ∧
        32 < s.passages.records.length + (es.takeWhile (s.leaves a)).length)) := by
  induction es with
  | nil => exact fun s room => (or_iff_left fun full => Nat.not_lt.2 room full.2).symm
  | cons e rest ih =>
    intro s room
    rw [State.retireFrom_cons, List.takeWhile_cons]
    have none_more : ¬ 32 < s.passages.records.length := Nat.not_lt.2 room
    split
    · have length : (s.depart e rest (s.outcome e)).passages.records.length = min (s.passages.records.length + 1) 32 := by
        rw [State.depart_passages, PassageList.length_takes room]
      rw [ih _ (by rw [length]; omega), State.hasLatched_departs, State.depart_portRole, State.depart_leaves, length]
      simp only [Event.number, true_and, Nat.reduceEqDiff, false_and, or_false, List.length_cons, or_assoc,
        ← and_or_left]
      refine or_congr .rfl (and_congr .rfl ?_)
      omega
    · split
      · simp [State.hasLatched_holdBack, Event.number, none_more]
      · simp [none_more]

theorem State.hasLatched_retireFrom_straggler (a : Int) (p : Port) (es : List Entry) : ∀ s : State,
    (State.retireFrom a es s).hasLatched p .straggler ↔ s.hasLatched p .straggler ∨
      (Event.straggler.targets p (s.portRole p) = true ∧
        ∃ e ∈ (es.dropWhile (s.leaves a)).head?, s.isDue a e = true ∧ e.deferred = false) := by
  induction es with
  | nil => exact fun s => by simp [State.retireFrom]
  | cons e rest ih =>
    intro s
    rw [State.retireFrom_cons, List.dropWhile_cons]
    split
    · rw [ih, State.hasLatched_departs, State.depart_portRole, State.depart_leaves, State.depart_isDue]
      simp [Event.number]
    · split
      next due => simp [State.hasLatched_holdBack, Event.number, due]
      next not_due => simp [not_due]

theorem State.raisesOnly_retireFrom (a : Int) (es : List Entry) : ∀ s : State,
    s.raisesOnly (State.retireFrom a es s) [.entryDeparted, .passageOverflow, .straggler] := by
  induction es with
  | nil => exact fun s => State.raisesOnly_refl s _
  | cons e rest ih =>
    intro s
    rw [State.retireFrom_cons]
    split
    · refine State.raisesOnly_trans ?_ (ih _)
      refine State.raisesOnly_trans ?_ (State.raisesOnly_raise _ (e := .entryDeparted) (by simp))
      unfold State.takeRecord
      split
      · exact State.raisesOnly_of_events rfl _
      · exact State.raisesOnly_raise _ (e := .passageOverflow) (by simp)
    · split
      · unfold State.holdBack
        split
        · exact State.raisesOnly_refl s _
        · exact State.raisesOnly_raise _ (e := .straggler) (by simp)
      · exact State.raisesOnly_refl s _

/-- Retirement writes the events, the list and the Passage List alone. -/
theorem State.retire_frame (s : State) :
    s.retire = { s with events := s.retire.events, list := s.retire.list, passages := s.retire.passages } := by
  obtain ⟨axis, detector, lanes, hold, motion, freeze, ports, restart, store, pins, freeCount, pending⟩ := s.retire_keeps
  generalize s.retire = t at *
  cases t
  dsimp only at *
  subst axis detector lanes hold motion freeze ports restart store pins freeCount pending
  rfl

/-! ### The outcome of an entry (R51) -/

theorem State.isHeldBack_eq (s : State) (e : Entry) : s.isHeldBack e =
    (decide (∃ x ∈ Lane.all, (e.lanes.get x).status = .claimed) || decide (s.hold.named? = some e.seq)) := by
  rw [Bool.eq_iff_iff, State.isHeldBack, Bool.or_eq_true, Bool.or_eq_true, List.any_eq_true]
  refine or_congr ?_ .rfl
  rw [decide_eq_true_eq]
  constructor
  · rintro ⟨r, mem, claimed⟩
    obtain ⟨x, rfl⟩ := (PerLane.mem_toList e.lanes r).1 mem
    exact ⟨x, Lane.mem_all x, of_decide_eq_true claimed⟩
  · rintro ⟨x, -, claimed⟩
    exact ⟨_, (PerLane.mem_toList e.lanes _).2 ⟨x, rfl⟩, decide_eq_true claimed⟩

theorem State.workingLane_eq_true (s : State) (e : Entry) (st : LaneStatus) : s.workingLane e st = true ↔
    ∃ x, s.isFitted x = true ∧ 0 < (e.lanes.get x).need ∧ (e.lanes.get x).status = st := by
  simp [State.workingLane, and_assoc]

/-- Settles O22. -/
theorem retirementTakesDueEntries : Obligations.RetirementTakesDueEntries := by
  refine ⟨fun s room => ?_, fun s e => ?_⟩
  · intro due kept gone rest records
    have leaves_eq : s.leaves s.axis.axis = fun e => due e && !kept e := by
      funext e
      rw [State.leaves, State.isHeldBack_eq]
      rfl
    have length : records.length = s.passages.records.length + gone.length := by simp [records]
    refine ⟨State.raisesOnly_retireFrom _ _ s, s.retire_frame, ?_, ?_, fun p => ?_, fun p => ?_, fun p => ?_, fun e o => rfl⟩
    · rw [State.retire, State.retireFrom_list _ _ s rfl, leaves_eq]
      cases h : s.list.entries.dropWhile fun e => due e && !kept e with
      | nil => simp only [rest, h]; rfl
      | cons e more => simp only [rest, h]; rfl
    · rw [State.retire, State.retireFrom_passages, leaves_eq, PassageList.foldl_takes _ room]
      rfl
    · rw [State.retire, State.hasLatched_retireFrom_departed, leaves_eq]
    · rw [State.retire, State.hasLatched_retireFrom_overflow _ _ _ s room, leaves_eq, length]
    · rw [State.retire, State.hasLatched_retireFrom_straggler, leaves_eq]
      rfl
  · intro has
    simp only [has, ← State.workingLane_eq_true]
    refine ⟨fun failed => ?_, fun not_failed missed => ?_, fun not_failed not_missed waived => ?_,
      fun not_failed not_missed not_waived => ?_⟩ <;> simp_all [State.outcome]

end Sys2Proof.Machine
end

section
/-! PROOFS. Edges of SDET (R13, R17 to R22, R31). -/

namespace Sys2Proof.Machine

/-! ### A waiting axis change takes no part in an edge -/

/-- The state with the note that an axis change waits, or without it (R31). -/
def State.noteWaits (s : State) (waits : Bool) : State := { s with list := { s.list with changeWaits := waits } }

theorem State.noteWaits_self {s : State} {waits : Bool} (stands : s.list.changeWaits = waits) : s.noteWaits waits = s := by
  subst stands
  rfl

theorem State.offer_noteWaits (s : State) (c : Int) (w : Nat) (b : Bool) :
    (s.noteWaits b).offer c w = (s.offer c w).noteWaits b := by
  have decided (u : State) : (u.noteWaits b).decideOffer c w = (u.decideOffer c w).noteWaits b := by
    unfold State.decideOffer
    have same : SleeperList.nearest c (u.noteWaits b).live.captureWindow (u.noteWaits b).list.entries =
      SleeperList.nearest c u.live.captureWindow u.list.entries := rfl
    have same' : (u.noteWaits b).tailRejects c = u.tailRejects c := rfl
    rw [same, same']
    split
    · rfl
    · split
      · rfl
      · split
        next full => rw [if_pos (show 48 ≤ u.list.entries.length from full)]; rfl
        next room => rw [if_neg (show ¬ 48 ≤ u.list.entries.length from room)]; rfl
  exact decided { s with detector := { s.detector with candidates := s.detector.candidates + 1 } }

theorem State.makeCandidate_noteWaits (s : State) (c : Candidate) (b : Bool) :
    (s.noteWaits b).makeCandidate c = (s.makeCandidate c).noteWaits b := by
  unfold State.makeCandidate
  have same : (s.noteWaits b).presetBehind = s.presetBehind := rfl
  rw [same]
  dsimp only
  split
  · have same' : (s.noteWaits b).freeCount = s.freeCount := rfl
    rw [same']
    split
    · rfl
    · exact State.offer_noteWaits { s with freeCount := s.freeCount + 1 } c.centre c.width b
  · exact State.offer_noteWaits s c.centre c.width b

theorem State.takeActiveEdge_noteWaits (s : State) (b : Bool) :
    (s.noteWaits b).takeActiveEdge = s.takeActiveEdge.noteWaits b := by
  unfold State.takeActiveEdge
  have same : (s.noteWaits b).live = s.live := rfl
  rw [same]
  split
  · exact State.makeCandidate_noteWaits s _ b
  · rfl
  · rfl

theorem State.closeInFlight_noteWaits (s : State) (a : Int) (b : Bool) :
    (s.noteWaits b).closeInFlight a = (s.closeInFlight a).noteWaits b := by
  unfold State.closeInFlight
  dsimp only
  have same : (s.noteWaits b).axis = s.axis := rfl
  have same' : (s.noteWaits b).dropInFlight = s.dropInFlight.noteWaits b := rfl
  have same'' : (s.dropInFlight.noteWaits b).live = s.dropInFlight.live := rfl
  rw [same, same', same'']
  split
  · rfl
  · exact State.makeCandidate_noteWaits s.dropInFlight _ b

theorem State.takeInactiveEdge_noteWaits (s : State) (b : Bool) :
    (s.noteWaits b).takeInactiveEdge = s.takeInactiveEdge.noteWaits b := by
  unfold State.takeInactiveEdge
  have same : (s.noteWaits b).live = s.live := rfl
  have same' : (s.noteWaits b).detector = s.detector := rfl
  rw [same, same']
  split
  · rfl
  · exact State.makeCandidate_noteWaits s _ b
  · split
    · rfl
    · exact State.closeInFlight_noteWaits s _ b

theorem State.takeEdge_noteWaits (s : State) (active b : Bool) :
    (s.noteWaits b).takeEdge active = (s.takeEdge active).noteWaits b := by
  unfold State.takeEdge
  dsimp only
  have same : (s.noteWaits b).axis = s.axis := rfl
  rw [same]
  split
  · rfl
  · split
    · exact State.takeActiveEdge_noteWaits { s with detector := { s.detector with sdetActive := active } } b
    · exact State.takeInactiveEdge_noteWaits { s with detector := { s.detector with sdetActive := active } } b

theorem State.sdetEdge_noteWaits (s : State) (active b : Bool) :
    (s.noteWaits b).sdetEdge active = (s.sdetEdge active).noteWaits b := by
  unfold State.sdetEdge
  dsimp only
  have same : (s.noteWaits b).sdetLineActive = s.sdetLineActive := rfl
  have same' : (s.noteWaits b).live = s.live := rfl
  have same'' : (s.noteWaits b).pins = s.pins := rfl
  rw [same, same', same'']
  split
  · rfl
  · generalize (if active = true then s.live.sdetPolarity.activeLevel else s.live.sdetPolarity.inactiveLevel) = level
    split
    next held =>
      rw [if_pos (show ({ s with pins := { s.pins with sdet := level } } : State).inReset = true from held)]
      rfl
    next released =>
      rw [if_neg (show ¬ ({ s with pins := { s.pins with sdet := level } } : State).inReset = true from released)]
      exact congrArg State.settle
        (State.takeEdge_noteWaits { s with pins := { s.pins with sdet := level } } active b)

/-- The edge is taken as if no change waited, and the change is taken right after it (R31). -/
theorem State.takeChange_of_waits {s : State} (released : s.inReset = false) (waits : s.list.changeWaits = true) :
    s.takeChange = (s.noteWaits false).retire.settle := by
  simp only [State.takeChange, released, waits]
  rfl

theorem State.takeChange_sdetEdge_of_none {s : State} (none_waits : s.list.changeWaits = false) (active : Bool) :
    (s.sdetEdge active).takeChange = s.sdetEdge active :=
  State.takeChange_of_none ((s.sdetEdge_changeWaits active).trans none_waits)

theorem State.takeChange_sdetEdge_of_waits {s : State} (released : s.inReset = false)
    (waits : s.list.changeWaits = true) (active : Bool) :
    (s.sdetEdge active).takeChange = ((s.noteWaits false).sdetEdge active).retire.settle := by
  rw [State.takeChange_of_waits ((s.sdetEdge_keeps active).2.trans released)
    ((s.sdetEdge_changeWaits active).trans waits), State.sdetEdge_noteWaits]

/-! ### The edge in forward travel (R17 to R22) -/

theorem State.sdetEdge_same {s : State} {active : Bool} (already : s.sdetLineActive = active) : s.sdetEdge active = s :=
  if_pos already

theorem State.sdetEdge_of_change {s : State} {active : Bool} (released : s.inReset = false)
    (changes : s.sdetLineActive ≠ active) : s.sdetEdge active =
      (({ s with pins := { s.pins with
        sdet := if active then s.live.sdetPolarity.activeLevel else s.live.sdetPolarity.inactiveLevel } } :
        State).takeEdge active).settle := by
  refine (if_neg changes).trans (if_neg ?_)
  exact Bool.not_eq_true _ ▸ released

/-! ### A candidate and a preset (R13) -/

theorem State.presetBehind_iff (s : State) :
    s.presetBehind = true ↔ ∃ p r rest, s.pending = Instr.axisPreset p :: rest ∧ s.hands p r 0x37 := by
  constructor
  · intro behind
    obtain ⟨p, rest, pending⟩ := State.presetBehind_eq_true behind
    simp only [State.presetBehind, pending] at behind
    obtain ⟨r, front⟩ := Option.isSome_iff_exists.1 behind
    exact ⟨p, r, rest, pending, (s.front?_iff p r 0x37).1 front⟩
  · rintro ⟨p, r, rest, pending, hands⟩
    simp only [State.presetBehind, pending]
    exact Option.isSome_iff_exists.2 ⟨r, (s.front?_iff p r 0x37).2 hands⟩

/-- The state with a candidate that waits, or without one (R13). -/
def State.noteMade (s : State) (made : Option Candidate) : State := { s with detector := { s.detector with made := made } }

/-- A preset is taken the same with a candidate that waits as without one. -/
theorem State.takeRequest_axisPreset_noteMade (s : State) (p : Port) (made : Option Candidate) :
    (s.noteMade made).takeRequest p 0x37 (State.judgeAxisPreset p) =
      (s.takeRequest p 0x37 (State.judgeAxisPreset p)).noteMade made := by
  have answered (u t : State) (r : Request) (checks : List (Bool × Result)) (result : Result) (data : List Byte) :
      State.respond p r (Reply.judge (u.noteMade made) checks (Reply.answer (t.noteMade made) result data)) =
        (State.respond p r (Reply.judge u checks (Reply.answer t result data))).noteMade made := by
    unfold Reply.judge
    cases Operands.lowestRefusal checks <;> rfl
  have judged (u : State) (r : Request) : (State.respond p r (State.judgeAxisPreset p (u.noteMade made) r)) =
      (State.respond p r (State.judgeAxisPreset p u r)).noteMade made := by
    unfold State.judgeAxisPreset
    split
    next b3 b2 b1 b0 _ => exact answered u (u.preset (Operands.signed4 b3 b2 b1 b0)) r _ _ _
    next => rfl
  unfold State.takeRequest
  have same : (s.noteMade made).front? p (fun c => c = 0x37) = s.front? p (fun c => c = 0x37) := rfl
  rw [same]
  split
  · rfl
  next r _ => exact congrArg State.settle (judged (s.popQueue p) r)

/-- The candidate that waits is offered right after the preset, with the centre it was made with (R13). -/
theorem State.offerMade_of_some {s : State} {c : Candidate} (released : s.inReset = false)
    (waits : s.detector.made = some c) : s.offerMade = ((s.noteMade none).offer c.centre c.width).settle := by
  simp only [State.offerMade, released, waits]
  rfl

theorem State.makeCandidate_meets {s : State} (behind : s.presetBehind = true) (c : Candidate) :
    s.makeCandidate c = ({ s with freeCount := s.freeCount + 1 } : State).offer c.centre c.width ∨
      s.makeCandidate c = ({ s with freeCount := s.freeCount + 1 } : State).noteMade (some c) := by
  unfold State.makeCandidate
  rw [if_pos behind]
  dsimp only
  split
  · exact .inr rfl
  · exact .inl rfl

/-- Settles O20. -/
theorem edgesMakeCandidates : Obligations.EdgesMakeCandidates := by
  refine ⟨fun s released none_waits => ⟨fun inactive => ?activeEdge, fun active => ?inactiveEdge⟩,
    fun s none_waits => ⟨fun active => ?_, fun inactive => ?_⟩, fun s edge is_edge released waits => ?waiting,
    fun s c => ?makes, fun p s c released made => ?preset⟩
  case activeEdge =>
    intro taken
    show Host.Outcome.next (s.sdetEdge true).takeChange = _
    rw [State.takeChange_sdetEdge_of_none none_waits, State.sdetEdge_of_change released (by simp [inactive])]
    show Host.Outcome.next (match taken.axis.direction with
      | .reverse => taken
      | .forward => taken.takeActiveEdge).settle = _
    have direction : taken.axis.direction = s.axis.direction := rfl
    rw [direction]
    cases s.axis.direction with
    | reverse => rfl
    | forward =>
      dsimp only
      rw [State.takeActiveEdge, show taken.live = s.live from rfl]
      cases s.live.edgeMode <;> rfl
  case inactiveEdge =>
    intro taken closed
    show Host.Outcome.next (s.sdetEdge false).takeChange = _
    rw [State.takeChange_sdetEdge_of_none none_waits, State.sdetEdge_of_change released (by simp [active])]
    show Host.Outcome.next (match taken.axis.direction with
      | .reverse => taken
      | .forward => taken.takeInactiveEdge).settle = _
    have direction : taken.axis.direction = s.axis.direction := rfl
    rw [direction]
    cases s.axis.direction with
    | reverse => rfl
    | forward =>
      dsimp only
      rw [State.takeInactiveEdge, show taken.live = s.live from rfl,
        show taken.detector.inFlight = s.detector.inFlight from rfl]
      cases s.live.edgeMode with
      | leading => rfl
      | trailing => rfl
      | both =>
        cases s.detector.inFlight with
        | none => rfl
        | some a => rfl
  · show Host.Outcome.next (s.sdetEdge true).takeChange = _
    rw [State.takeChange_sdetEdge_of_none none_waits, State.sdetEdge_same active]
  · show Host.Outcome.next (s.sdetEdge false).takeChange = _
    rw [State.takeChange_sdetEdge_of_none none_waits, State.sdetEdge_same inactive]
  case waiting =>
    have each (active : Bool) :
        ((s.noteWaits false).sdetEdge active).takeChange = (s.noteWaits false).sdetEdge active ∧
        (s.sdetEdge active).takeChange = ((s.noteWaits false).sdetEdge active).retire.settle :=
      ⟨State.takeChange_sdetEdge_of_none rfl active, State.takeChange_sdetEdge_of_waits released waits active⟩
    rcases is_edge with rfl | rfl
    · exact ⟨_, congrArg Host.Outcome.next (each true).1, congrArg Host.Outcome.next (each true).2⟩
    · exact ⟨_, congrArg Host.Outcome.next (each false).1, congrArg Host.Outcome.next (each false).2⟩
  case makes =>
    intro counted meets
    have meets_iff : meets ↔ s.presetBehind = true := s.presetBehind_iff.symm
    refine ⟨fun alone => ?_, fun meet => State.makeCandidate_meets (meets_iff.1 meet) c⟩
    exact State.makeCandidate_alone (Bool.eq_false_iff.2 (alone ∘ meets_iff.2)) c
  case preset =>
    let t := (s.noteMade none).takeRequest p 0x37 (State.judgeAxisPreset p)
    have split_made : s.takeRequest p 0x37 (State.judgeAxisPreset p) = t.noteMade (some c) := by
      have whole : s = (s.noteMade none).noteMade (some c) := by rw [← made]; rfl
      rw [whole, State.takeRequest_axisPreset_noteMade]
    obtain ⟨made_kept, -, reset_kept⟩ := State.takeRequest_axisPreset_keeps (s.noteMade none) p
    have t_made : t.detector.made = none := made_kept
    refine ⟨t, congrArg Host.Outcome.next (State.offerMade_of_none t_made), ?_⟩
    show Host.Outcome.next (s.takeRequest p 0x37 (State.judgeAxisPreset p)).offerMade = _
    rw [split_made, State.offerMade_of_some (s := t.noteMade (some c)) (reset_kept.trans released) rfl]
    have restored : (t.noteMade (some c)).noteMade none = t := by
      show t.noteMade none = t
      rw [← t_made]
      rfl
    rw [restored]

end Sys2Proof.Machine
end

section
/-! PROOFS. PULSE (R2 to R9, R23, R31, R48, R116, R118). -/

namespace Sys2Proof.Machine

/-! ### The axis (R2 to R5) -/

theorem AxisUnit.pulseDirection_eq (sign : DirectionSign) (odb : Level) :
    AxisUnit.pulseDirection sign odb =
      if decide (odb = .high) == decide (sign = .highForward) then .forward else .reverse := by
  cases sign <;> cases odb <;> rfl

theorem AxisUnit.extension_eq (pattern : Int) (g : Fin 4) : AxisUnit.extension pattern g =
    if (pattern = 1 ∧ g = 1) ∨ (pattern = 2 ∧ (g = 0 ∨ g = 2)) ∨ (pattern = 3 ∧ g ≠ 3) then 1 else 0 := by
  unfold AxisUnit.extension
  split
  next one => subst one; simp
  next not_one =>
    split
    next two => subst two; simp
    next not_two =>
      split
      next three =>
        subst three
        by_cases last : g = 3 <;> simp [last]
      next not_three => simp [not_one, not_two, not_three]

/-! ### What the Motion Unit does at a pulse (R116, R118) -/

section
variable {s : State}

theorem State.motionWatch_of_granted {start : Int} {d : Nat} (granted : s.motion.state = .granted start d) :
    s.motionWatch = if d ≤ (s.axis.axis - start).natAbs then s.endGrant else s := by
  simp only [State.motionWatch, granted, Int.ofNat_le]

/-- The axis lies beyond the creep tolerance from the halt point (R118). -/
def State.crept (s : State) : Prop := s.live.creepTolerance < (s.axis.axis - s.motion.haltPoint).natAbs

theorem State.motionWatch_of_near (halted : s.motion.state = .halt) (near : ¬ s.crept) : s.motionWatch = s := by
  simp only [State.motionWatch, halted]
  exact if_neg near

theorem State.motionWatch_of_free (halted : s.motion.state = .halt) (far : s.crept) (free : s.underLoad = false) :
    s.motionWatch = s.haltAtAxis.raise .creep := by
  simp only [State.motionWatch, halted, free]
  exact if_pos far

theorem State.motionWatch_of_load (halted : s.motion.state = .halt) (far : s.crept) (load : s.underLoad = true) :
    s.motionWatch = s.handCause .creepUnderLoad .nowhere s.hold.named? := by
  simp only [State.motionWatch, halted, load]
  exact if_pos far

end

/-- MOVE_ENDED, CREEP and FROZEN are latched at a pulse by the Motion Unit, each for its own reason (R116, R118, R125). -/
theorem State.hasLatched_motionWatch (s : State) (p : Port) (e : Event) :
    s.motionWatch.hasLatched p e ↔ s.hasLatched p e ∨
      (Event.moveEnded.number = e.number ∧ Event.moveEnded.targets p (s.portRole p) = true ∧
        ∃ start d, s.motion.state = .granted start d ∧ d ≤ (s.axis.axis - start).natAbs) ∨
      (Event.creep.number = e.number ∧ Event.creep.targets p (s.portRole p) = true ∧
        s.motion.state = .halt ∧ s.crept ∧ s.underLoad = false) ∨
      (Event.frozen.number = e.number ∧ s.motion.state = .halt ∧ s.crept ∧ s.underLoad = true ∧ s.freeze.state = .run) := by
  cases motion : s.motion.state with
  | granted start d =>
    rw [State.motionWatch_of_granted motion]
    split
    next run =>
      have ended : ∃ a b, MotionState.granted start d = .granted a b ∧ b ≤ (s.axis.axis - a).natAbs := ⟨start, d, rfl, run⟩
      rw [State.hasLatched_endGrant]
      simp only [ended, reduceCtorEq, false_and, and_false, or_false, and_true]
    next short =>
      simp only [MotionState.granted.injEq, reduceCtorEq, false_and, and_false, or_false, iff_self_or]
      rintro ⟨-, -, a, b, ⟨rfl, rfl⟩, run⟩
      exact absurd run short
  | halt =>
    simp only [reduceCtorEq, false_and, exists_false, and_false, false_or, true_and]
    by_cases far : s.crept
    · cases load : s.underLoad with
      | true =>
        rw [State.motionWatch_of_load motion far load, State.hasLatched_handCause]
        simp only [far, Bool.true_eq_false, and_false, false_or, true_and, Event.number, @eq_comm _ 1]
      | false =>
        simp [State.motionWatch_of_free motion far load, far, State.portRole, State.live]
    · simp [State.motionWatch_of_near motion far, far]

/-! ### Up to the Sleeper List (R6, R7, R23) -/

/-- The state after a pulse has given the axis unit and the Detector Unit has taken the change (R5 to R7, R23). -/
def State.turned (s : State) (u : AxisUnit) : State :=
  (if s.axis.direction = .forward ∧ u.direction = .reverse then ({ s with axis := u } : State).raise .reversed
    else { s with axis := u }).detectorWatch u.direction

theorem State.takePulse_eq (s : State) : s.takePulse =
    (let u := s.axis.afterPulse s.live.scalerBase s.live.scalerPattern
      (AxisUnit.pulseDirection s.live.directionSign s.pins.odb)
    if AxisUnit.inLimit u.axis then (s.turned u).listWatch.motionWatch else s.handCause .axisLimit .nowhere none) := by
  unfold State.takePulse State.axisChange State.turned
  dsimp only
  split
  · split <;> rfl
  · rfl

theorem State.turned_keeps (s : State) (u : AxisUnit) :
    (s.turned u).axis = u ∧ (s.turned u).list = s.list ∧ (s.turned u).passages = s.passages ∧
    (s.turned u).lanes = s.lanes ∧ (s.turned u).hold = s.hold ∧ (s.turned u).motion = s.motion ∧
    (s.turned u).freeze = s.freeze ∧ (s.turned u).ports = s.ports ∧ (s.turned u).restart = s.restart ∧
    (s.turned u).store = s.store ∧ (s.turned u).pins = s.pins ∧ (s.turned u).freeCount = s.freeCount ∧
    (s.turned u).pending = s.pending := by
  unfold State.turned
  split <;> simp

theorem State.detectorWatch_detector (s : State) (d : Direction) : (s.detectorWatch d).detector =
    if d = .reverse ∧ s.detector.inFlight ≠ none then
      { s.detector with inFlight := none, rejects := s.detector.rejects + 1 } else s.detector := by
  unfold State.detectorWatch
  split
  next flying => rw [if_pos (by simp [flying])]; rfl
  next other =>
    rw [if_neg]
    rintro ⟨reverse, flying⟩
    obtain ⟨a, in_flight⟩ := Option.ne_none_iff_exists'.1 flying
    exact other a reverse in_flight

theorem State.hasLatched_detectorWatch_reject (s : State) (d : Direction) (p : Port) :
    (s.detectorWatch d).hasLatched p .detectReject ↔ s.hasLatched p .detectReject ∨
      (Event.detectReject.targets p (s.portRole p) = true ∧ d = .reverse ∧ s.detector.inFlight ≠ none) := by
  unfold State.detectorWatch
  split
  next flying =>
    refine (State.hasLatched_raise _ .detectReject .detectReject p).trans (or_congr .rfl ?_)
    exact ⟨fun ⟨_, target⟩ => ⟨target, rfl, by simp [flying]⟩, fun ⟨target, _⟩ => ⟨rfl, target⟩⟩
  next other =>
    refine (or_iff_left ?_).symm
    rintro ⟨-, reverse, flying⟩
    obtain ⟨a, in_flight⟩ := Option.ne_none_iff_exists'.1 flying
    exact other a reverse in_flight

theorem State.turned_detector (s : State) (u : AxisUnit) : (s.turned u).detector =
    if u.direction = .reverse ∧ s.detector.inFlight ≠ none then
      { s.detector with inFlight := none, rejects := s.detector.rejects + 1 } else s.detector := by
  unfold State.turned
  rw [State.detectorWatch_detector]
  split <;> rfl

/-- A reverse pulse leaves no candidate in flight (R23). -/
theorem State.turned_inFlight (s : State) (u : AxisUnit) :
    (s.turned u).detector.inFlight = if u.direction = .reverse then none else s.detector.inFlight := by
  rw [State.turned_detector]
  cases u.direction <;> cases h : s.detector.inFlight <;> simp [h]

/-- The candidate that a reverse pulse discards counts as rejected (R23). -/
theorem State.turned_rejects (s : State) (u : AxisUnit) : (s.turned u).detector.rejects =
    if u.direction = .reverse ∧ s.detector.inFlight ≠ none then s.detector.rejects + 1 else s.detector.rejects := by
  rw [State.turned_detector]
  split <;> rfl

theorem State.turned_detector_keeps (s : State) (u : AxisUnit) :
    (s.turned u).detector.made = s.detector.made ∧ (s.turned u).detector.candidates = s.detector.candidates ∧
    (s.turned u).detector.sdetActive = s.detector.sdetActive := by
  rw [State.turned_detector]
  split <;> exact ⟨rfl, rfl, rfl⟩

theorem State.hasLatched_turned_reject (s : State) (u : AxisUnit) (p : Port) :
    (s.turned u).hasLatched p .detectReject ↔ s.hasLatched p .detectReject ∨
      (Event.detectReject.targets p (s.portRole p) = true ∧ u.direction = .reverse ∧ s.detector.inFlight ≠ none) := by
  unfold State.turned
  rw [State.hasLatched_detectorWatch_reject]
  split
  · rw [State.hasLatched_raise]
    simp only [Event.number, Nat.reduceEqDiff, false_and, or_false]
    rfl
  · rfl

theorem State.hasLatched_turned {s : State} {u : AxisUnit} {p : Port} {e : Event} (other : e.number ≠ 17) :
    (s.turned u).hasLatched p e ↔ s.hasLatched p e ∨ (Event.reversed.number = e.number ∧
      Event.reversed.targets p (s.portRole p) = true ∧ s.axis.direction = .forward ∧ u.direction = .reverse) := by
  unfold State.turned
  rw [State.hasLatched_detectorWatch other]
  split
  next turn =>
    rw [State.hasLatched_raise]
    exact or_congr .rfl (and_congr .rfl (and_iff_left turn).symm)
  next straight =>
    refine (or_iff_left ?_).symm
    rintro ⟨-, -, turn⟩
    exact straight turn

/-! ### What the Sleeper List reads of the state (R48 to R52) -/

/-- Two states agree in all that retirement reads and writes (R48 to R52). -/
structure State.AgreesForList (s t : State) : Prop where
  list : t.list = s.list
  passages : t.passages = s.passages
  hold : t.hold = s.hold
  store : t.store = s.store
  latched : ∀ p, ∀ e ∈ [Event.entryDeparted, .passageOverflow, .straggler], (t.hasLatched p e ↔ s.hasLatched p e)

theorem State.AgreesForList.raise {s t : State} (agrees : s.AgreesForList t) (f : Event) :
    (s.raise f).AgreesForList (t.raise f) where
  list := agrees.list
  passages := agrees.passages
  hold := agrees.hold
  store := agrees.store
  latched p e mem := by
    rw [State.hasLatched_raise, State.hasLatched_raise, agrees.latched p e mem]
    simp only [State.portRole, State.live, agrees.store]

theorem State.AgreesForList.depart {s t : State} (agrees : s.AgreesForList t) (e : Entry) (rest : List Entry)
    (o : PassageOutcome) : (s.depart e rest o).AgreesForList (t.depart e rest o) where
  list := by rw [State.depart_list, State.depart_list, agrees.list]
  passages := by rw [State.depart_passages, State.depart_passages, agrees.passages]
  hold := by simp only [State.depart_keeps, agrees.hold]
  store := by simp only [State.depart_keeps, agrees.store]
  latched p f mem := by
    rw [State.hasLatched_departs, State.hasLatched_departs, agrees.latched p f mem, agrees.passages]
    simp only [State.portRole, State.live, agrees.store]

theorem State.AgreesForList.holdBack {s t : State} (agrees : s.AgreesForList t) (e : Entry) (rest : List Entry) :
    (s.holdBack e rest).AgreesForList (t.holdBack e rest) := by
  unfold State.holdBack
  split
  · exact agrees
  · refine State.AgreesForList.raise ?_ .straggler
    exact ⟨by simp only [agrees.list], agrees.passages, agrees.hold, agrees.store, agrees.latched⟩

theorem State.AgreesForList.leaves {s t : State} (agrees : s.AgreesForList t) (a : Int) : t.leaves a = s.leaves a := by
  funext e
  simp only [State.leaves, State.isDue, State.isHeldBack, State.live, agrees.store, agrees.hold]
  rfl

theorem State.AgreesForList.retireFrom (a : Int) (es : List Entry) : ∀ {s t : State}, s.AgreesForList t →
    (State.retireFrom a es s).AgreesForList (State.retireFrom a es t) := by
  induction es with
  | nil => exact fun agrees => agrees
  | cons e rest ih =>
    intro s t agrees
    have due : t.isDue a e = s.isDue a e := by
      simp only [State.isDue, State.live, agrees.store]
      rfl
    have outcome : t.outcome e = s.outcome e := by
      simp only [State.outcome, State.workingLane, State.isFitted, State.live, agrees.store]
      rfl
    rw [State.retireFrom_cons, State.retireFrom_cons, agrees.leaves, due, outcome]
    split
    · exact ih (agrees.depart e rest _)
    · split
      · exact agrees.holdBack e rest
      · exact agrees

theorem State.AgreesForList.retire {s t : State} (agrees : s.AgreesForList t) (axis : t.axis = s.axis) :
    s.retire.AgreesForList t.retire := by
  rw [State.retire, State.retire, axis, agrees.list]
  exact State.AgreesForList.retireFrom _ _ agrees

/-- Up to the Sleeper List a pulse touches nothing that retirement reads, but the axis. -/
theorem State.turned_agrees (s : State) (u : AxisUnit) : ({ s with axis := u } : State).AgreesForList (s.turned u) := by
  obtain ⟨-, list, passages, -, hold, -, -, -, -, store, -⟩ := s.turned_keeps u
  refine ⟨list, passages, hold, store, fun p e mem => ?_⟩
  have other : e.number = 19 ∨ e.number = 20 ∨ e.number = 15 := by
    simp only [List.mem_cons, List.not_mem_nil, or_false] at mem
    rcases mem with rfl | rfl | rfl <;> simp [Event.number]
  rw [State.hasLatched_turned (by omega)]
  refine or_iff_left ?_
  rintro ⟨same, -⟩
  have : Event.reversed.number = 14 := rfl
  omega

/-! ### What a pulse raises -/

theorem State.raisesOnly_retire (s : State) : s.raisesOnly s.retire [.entryDeparted, .passageOverflow, .straggler] :=
  State.raisesOnly_retireFrom _ _ s

theorem State.raisesOnly_endGrant (s : State) : s.raisesOnly s.endGrant [.moveEnded] :=
  State.raisesOnly_raise s.haltAtAxis (by simp)

theorem State.raisesOnly_handCause (s : State) (c : FreezeCause) (o : FreezeSource) (q : Option SeqNo) :
    s.raisesOnly (s.handCause c o q) [.frozen] := by
  unfold State.handCause
  split
  · exact State.raisesOnly_raise _ (by simp)
  · exact State.raisesOnly_of_events rfl _

theorem State.raisesOnly_turned (s : State) (u : AxisUnit) : s.raisesOnly (s.turned u) [.reversed, .detectReject] := by
  have watched (t : State) : t.raisesOnly (t.detectorWatch u.direction) [.reversed, .detectReject] := by
    unfold State.detectorWatch
    split
    · exact State.raisesOnly_raise _ (by simp)
    · exact State.raisesOnly_refl t _
  unfold State.turned
  refine State.raisesOnly_trans ?_ (watched _)
  split
  · exact State.raisesOnly_raise { s with axis := u } (by simp)
  · exact State.raisesOnly_of_events rfl _

theorem State.raisesOnly_listWatch (s : State) :
    s.raisesOnly s.listWatch [.entryDeparted, .passageOverflow, .straggler] := by
  cases behind : s.edgeBehind with
  | false =>
    rw [State.listWatch_alone behind]
    exact s.raisesOnly_retire
  | true =>
    rcases State.listWatch_meets behind with taken | waits
    · rw [taken]
      exact State.raisesOnly_retire { s with freeCount := s.freeCount + 1 }
    · rw [waits]
      exact State.raisesOnly_of_events rfl _

theorem State.raisesOnly_motionWatch (s : State) : s.raisesOnly s.motionWatch [.moveEnded, .creep, .frozen] := by
  unfold State.motionWatch
  split
  · split
    · exact State.raisesOnly_mono s.raisesOnly_endGrant (by simp)
    · exact State.raisesOnly_refl s _
  · split
    · split
      · exact State.raisesOnly_mono (s.raisesOnly_handCause _ _ _) (by simp)
      · exact State.raisesOnly_raise s.haltAtAxis (by simp)
    · exact State.raisesOnly_refl s _

theorem State.edgeBehind_iff (s : State) :
    s.edgeBehind = true ↔ ∃ rest, s.pending = .activeEdge :: rest ∨ s.pending = .inactiveEdge :: rest := by
  constructor
  · intro behind
    obtain ⟨edge, rest, is_edge, pending⟩ := State.edgeBehind_eq_true behind
    rcases is_edge with rfl | rfl
    · exact ⟨rest, .inl pending⟩
    · exact ⟨rest, .inr pending⟩
  · rintro ⟨rest, pending | pending⟩ <;> simp [State.edgeBehind, pending]

/-! ### The whole pulse -/

theorem exec_pulse {s : State} (released : s.inReset = false) (odb : Level) : exec (.pulse odb) s =
    .next ({ s with pins := { s.pins with odb := odb } } : State).takePulse.settle := by
  show Host.Outcome.next (if s.inReset then _ else _) = _
  rw [released]
  rfl

/-- The axis unit after a pulse, as its rules write it (R2 to R5). -/
theorem AxisUnit.afterPulse_eq (u : AxisUnit) (base pattern : Int) (sign : DirectionSign) (odb : Level) :
    u.afterPulse base pattern (AxisUnit.pulseDirection sign odb) =
      if decide (odb = .high) == decide (sign = .highForward) then
        ⟨u.axis + base + AxisUnit.extension pattern u.phase, u.phase + 1, .forward⟩
      else ⟨u.axis - base - AxisUnit.extension pattern (u.phase - 1), u.phase - 1, .reverse⟩ := by
  rw [AxisUnit.pulseDirection_eq]
  split
  · rw [AxisUnit.afterPulse, Int.add_assoc]
  · rw [AxisUnit.afterPulse, Int.sub_sub]

/-- Settles O17. -/
theorem pulseMovesTheAxis : Obligations.PulseMovesTheAxis := by
  intro odb s released forward ext g u sampled retired listEvents meets takes waits
  have u_eq : sampled.axis.afterPulse sampled.live.scalerBase sampled.live.scalerPattern
      (AxisUnit.pulseDirection sampled.live.directionSign sampled.pins.odb) = u := by
    rw [AxisUnit.afterPulse_eq, AxisUnit.extension_eq, AxisUnit.extension_eq]
    rfl
  have direction : u.direction = .reverse ↔ forward = false := by
    cases h : forward <;> simp [u, h]
  have pulse := exec_pulse released odb
  refine ⟨fun outside => ?_, fun above below => ?_⟩
  · have refused : AxisUnit.inLimit u.axis = false := by
      rw [AxisUnit.inLimit]
      rcases outside with beyond | beyond <;> simp <;> omega
    rw [pulse, State.takePulse_eq]
    dsimp only
    rw [u_eq, refused]
    rfl
  · have allowed : AxisUnit.inLimit u.axis = true := (AxisUnit.inLimit_eq_true _).2 ⟨above, below⟩
    have taken : sampled.takePulse = (sampled.turned u).listWatch.motionWatch := by
      rw [State.takePulse_eq]
      dsimp only
      rw [u_eq, allowed]
      rfl
    rw [show exec (.pulse odb) s = .next sampled.takePulse.settle from pulse, taken]
    obtain ⟨axis, list, passages, lanes, hold, -, -, ports, restart, store, pins, freeCount, pending⟩ :=
      sampled.turned_keeps u
    obtain ⟨made, candidates, sdetActive⟩ := sampled.turned_detector_keeps u
    have agrees : ({ s with axis := u } : State).AgreesForList (sampled.turned u) :=
      ⟨list, passages, hold, store, (sampled.turned_agrees u).latched⟩
    have listed (p : Port) {e : Event} (mem : e ∈ listEvents) (v : State) :
        v.motionWatch.settle.hasLatched p e ↔ v.hasLatched p e := by
      rw [State.hasLatched_settle, State.hasLatched_motionWatch]
      simp only [listEvents, List.mem_cons, List.not_mem_nil, or_false] at mem
      rcases mem with rfl | rfl | rfl <;> simp [Event.number]
    have watched : sampled.edgeBehind = (sampled.turned u).edgeBehind := by simp only [State.edgeBehind, pending]
    have meets_iff : meets ↔ (sampled.turned u).edgeBehind = true := by
      rw [← watched]
      exact sampled.edgeBehind_iff.symm
    have flight : (sampled.turned u).listWatch.motionWatch.settle.detector = (sampled.turned u).detector := by
      simp only [State.settle_keeps, State.motionWatch_keeps, State.listWatch_keeps]
    have retires (v : State) (same : ({ s with axis := u } : State).AgreesForList v) (axis : v.axis = u) :
        takes v.retire.motionWatch.settle := by
      have retired_agrees := same.retire axis
      refine ⟨?_, ?_, fun p e mem => (listed p mem _).trans (retired_agrees.latched p e mem)⟩
      · simp only [State.settle_keeps, State.motionWatch_keeps]
        exact retired_agrees.list
      · simp only [State.settle_keeps, State.motionWatch_keeps]
        exact retired_agrees.passages
    refine ⟨_, rfl, ?_, fun p => ?_, fun p => ?_, ?_, ?_, fun alone => ?_, fun meet => ?_, ?_, ?_, ?_, ?_, ?_, ?_, ?_, ?_,
      ?_, ?_, ?_⟩
    · simp only [State.settle_keeps, State.motionWatch_keeps, State.listWatch_keeps, axis]
    · rw [State.hasLatched_settle, State.hasLatched_motionWatch, State.hasLatched_listWatch (by simp [Event.number]),
        State.hasLatched_turned (by simp [Event.number]), direction]
      simp only [Event.number, Nat.reduceEqDiff, false_and, or_false, true_and, and_comm (a := forward = false)]
      rfl
    · rw [State.hasLatched_settle, State.hasLatched_motionWatch, State.hasLatched_listWatch (by simp [Event.number]),
        State.hasLatched_turned_reject, direction]
      simp only [Event.number, Nat.reduceEqDiff, false_and, or_false]
      rfl
    · rw [flight, State.turned_inFlight]
      simp only [direction]
      cases forward <;> rfl
    · rw [flight, State.turned_rejects]
      simp only [direction]
      cases forward
      · rw [show sampled.detector = s.detector from rfl]
        cases s.detector.inFlight <;> rfl
      · rfl
    · have at_once := State.listWatch_alone (Bool.eq_false_iff.2 (alone ∘ meets_iff.2))
      rw [at_once]
      refine ⟨retires _ agrees axis, ?_⟩
      simp only [State.settle_keeps, State.motionWatch_keeps, State.retire_keeps, freeCount, sampled]
    · rcases State.listWatch_meets (meets_iff.1 meet) with taken | waited
      · rw [taken]
        refine ⟨.inl (retires _ ⟨agrees.list, agrees.passages, agrees.hold, agrees.store, agrees.latched⟩ axis), ?_⟩
        simp only [State.settle_keeps, State.motionWatch_keeps, State.retire_keeps, freeCount, sampled]
      · rw [waited]
        refine ⟨.inr ⟨?_, ?_, fun p e mem => (listed p mem _).trans (agrees.latched p e mem)⟩, ?_⟩
        · simp only [State.settle_keeps, State.motionWatch_keeps, list, sampled]
        · simp only [State.settle_keeps, State.motionWatch_keeps, passages, sampled]
        · simp only [State.settle_keeps, State.motionWatch_keeps, freeCount, sampled]
    · exact (congrArg DetectorUnit.made flight).trans made
    · exact (congrArg DetectorUnit.candidates flight).trans candidates
    · exact (congrArg DetectorUnit.sdetActive flight).trans sdetActive
    · simp only [State.settle_keeps, State.motionWatch_keeps, State.listWatch_keeps, lanes, sampled]
    · simp only [State.settle_keeps, State.motionWatch_keeps, State.listWatch_keeps, hold, sampled]
    · simp only [State.settle_keeps, State.motionWatch_keeps, State.listWatch_keeps, ports, sampled]
    · simp only [State.settle_keeps, State.motionWatch_keeps, State.listWatch_keeps, restart, sampled]
    · simp only [State.settle_keeps, State.motionWatch_keeps, State.listWatch_keeps, store, sampled]
    · simp only [State.settle_keeps, State.motionWatch_keeps, State.listWatch_keeps, pending, sampled]
    · refine State.raisesOnly_trans (t := sampled.turned u) ?_ (State.raisesOnly_trans
        (State.raisesOnly_mono (State.raisesOnly_listWatch _) (by simp)) (State.raisesOnly_trans
        (State.raisesOnly_mono (State.raisesOnly_motionWatch _) (by simp)) (State.raisesOnly_of_events rfl _)))
      exact State.raisesOnly_mono (sampled.raisesOnly_turned u) (by simp)
    · have kept : (sampled.turned u).listWatch.motionWatch.pins = sampled.pins := by
        simp only [State.motionWatch_keeps, State.listWatch_keeps, pins]
      show ({ (sampled.turned u).listWatch.motionWatch.pins with dpm := _, movok := _, frzout := _ } : Pins) = _
      rw [kept]
      rfl

/-! ### The load (R118) and the end of a pulse -/

theorem State.underLoad_eq_true (s : State) : s.underLoad = true ↔ s.hold ≠ .free ∨
    ∃ x, s.isFitted x = true ∧ ((s.lane x).state.isDown = true ∨ ((s.lane x).state = .fault ∧ (s.lane x).tdnActive = true)) := by
  simp [State.underLoad, LaneState.isFault_iff]

/-- A pulse that moves the axis runs through the Detector Unit and the Sleeper List to the Motion Unit, which finds the
motion, the freeze, the hold, the lanes and the settings as they were (R7, R116, R118). -/
theorem exec_pulse_of_moved {odb : Level} {s t : State} (released : s.inReset = false)
    (ran : exec (.pulse odb) s = .next t) (moved : t.axis ≠ s.axis) : ∃ v : State, t = v.motionWatch.settle ∧
      v.motion = s.motion ∧ v.freeze = s.freeze ∧ v.hold = s.hold ∧ v.lanes = s.lanes ∧ v.store = s.store ∧
      ∀ (p : Port) (e : Event), e.number = 1 ∨ e.number = 12 ∨ e.number = 13 → (v.hasLatched p e ↔ s.hasLatched p e) := by
  have t_eq := Host.Outcome.next.inj ((exec_pulse released odb).symm.trans ran)
  generalize sampled_eq : ({ s with pins := { s.pins with odb := odb } } : State) = sampled at t_eq
  rw [State.takePulse_eq] at t_eq
  dsimp only at t_eq
  split at t_eq
  · generalize sampled.axis.afterPulse sampled.live.scalerBase sampled.live.scalerPattern
      (AxisUnit.pulseDirection sampled.live.directionSign sampled.pins.odb) = u at t_eq
    subst sampled_eq
    obtain ⟨-, -, -, lanes, hold, motion, freeze, -, -, store, -⟩ := State.turned_keeps _ u
    refine ⟨(State.turned _ u).listWatch, t_eq.symm, ?_, ?_, ?_, ?_, ?_, fun p e number => ?_⟩
    · simp only [State.listWatch_keeps]
      exact motion
    · simp only [State.listWatch_keeps]
      exact freeze
    · simp only [State.listWatch_keeps]
      exact hold
    · simp only [State.listWatch_keeps]
      exact lanes
    · simp only [State.listWatch_keeps]
      exact store
    · have reversed : Event.reversed.number = 14 := rfl
      rw [State.hasLatched_listWatch (by omega), State.hasLatched_turned (by omega)]
      exact or_iff_left fun turn => by omega
  · refine absurd ?_ moved
    rw [← t_eq, ← sampled_eq]
    simp only [State.settle_keeps, State.handCause_keeps]

/-- Settles O18. -/
theorem pulseRunsTheGrantAndCreeps : Obligations.PulseRunsTheGrantAndCreeps := by
  intro odb s t released ran moved load
  obtain ⟨v, t_eq, motion, freeze, hold, lanes, store, latched⟩ := exec_pulse_of_moved released ran moved
  have axis : v.axis = t.axis := by rw [t_eq]; simp only [State.settle_keeps, State.motionWatch_keeps]
  have load_iff : load ↔ v.underLoad = true := by
    rw [State.underLoad_eq_true]
    simp only [State.isFitted, State.live, State.lane, hold, lanes, store]
    rfl
  have far_iff : s.live.creepTolerance < (t.axis.axis - s.motion.haltPoint).natAbs ↔ v.crept := by
    simp only [State.crept, State.live, store, axis, motion]
  have role (p : Port) : v.portRole p = s.portRole p := by simp only [State.portRole, State.live, store]
  have latched_t (p : Port) (e : Event) (number : e.number = 1 ∨ e.number = 12 ∨ e.number = 13) :
      t.hasLatched p e ↔ s.hasLatched p e ∨
        (Event.moveEnded.number = e.number ∧ Event.moveEnded.targets p (s.portRole p) = true ∧
          ∃ start d, s.motion.state = .granted start d ∧ d ≤ (t.axis.axis - start).natAbs) ∨
        (Event.creep.number = e.number ∧ Event.creep.targets p (s.portRole p) = true ∧
          s.motion.state = .halt ∧ v.crept ∧ v.underLoad = false) ∨
        (Event.frozen.number = e.number ∧ s.motion.state = .halt ∧ v.crept ∧ v.underLoad = true ∧
          s.freeze.state = .run) := by
    rw [← latched p e number, ← axis, ← motion, ← freeze, ← role, ← State.hasLatched_motionWatch, t_eq]
    exact State.hasLatched_settle _ p e
  have motion_t : t.motion = v.motionWatch.motion := by rw [t_eq]; rfl
  have freeze_t : t.freeze = v.motionWatch.freeze := by rw [t_eq]; rfl
  refine ⟨fun start distance granted => ?_, fun halted => ?_, fun p => ?_, fun p => ?_, fun p => ?_⟩
  · have granted : v.motion.state = .granted start distance := by rw [motion, granted]
    rw [motion_t, freeze_t, State.motionWatch_of_granted granted, axis]
    refine ⟨?_, fun short => ?_, fun run => ?_⟩
    · split <;> simp [freeze]
    · rw [if_neg (Nat.not_le.2 short), motion]
    · rw [if_pos run, ← axis]
      rfl
  · have halted : v.motion.state = .halt := by rw [motion, halted]
    intro far
    rw [motion_t, freeze_t]
    refine ⟨fun near => ?_, fun crept free => ?_, fun crept loaded run => ?_, fun crept loaded frozen => ?_⟩
    · rw [State.motionWatch_of_near halted (near ∘ far_iff.2)]
      exact ⟨motion, freeze⟩
    · rw [State.motionWatch_of_free halted (far_iff.1 crept) (Bool.eq_false_iff.2 (free ∘ load_iff.2)), ← axis, ← freeze]
      exact ⟨rfl, rfl⟩
    · rw [State.motionWatch_of_load halted (far_iff.1 crept) (load_iff.1 loaded), State.handCause, freeze, run, ← axis,
        ← hold]
      exact ⟨rfl, rfl⟩
    · rw [State.motionWatch_of_load halted (far_iff.1 crept) (load_iff.1 loaded), State.handCause, freeze, frozen, ← motion]
      exact ⟨rfl, rfl⟩
  · rw [latched_t p _ (by simp [Event.number])]
    simp [Event.number]
  · rw [latched_t p _ (by simp [Event.number]), far_iff, load_iff]
    simp [Event.number]
  · rw [latched_t p _ (by simp [Event.number]), far_iff, load_iff]
    simp [Event.number]

end Sys2Proof.Machine
end

section
/-! PROOFS. ANNOTATE (R38 to R41) and PLACE (R42 to R44). -/

namespace Sys2Proof.Machine

/-! ### Judgements that do not turn on the state accepted (R142) -/

/-- Where a check fails the state on acceptance does not tell. -/
theorem State.afterJudging_of_fails {checks : List (Bool × Result)} {c : Result} (fails : (true, c) ∈ checks) (s : State)
    (p : Port) (r : Request) (accepted accepted' : State) :
    s.afterJudging p r checks accepted = s.afterJudging p r checks accepted' := by
  simpa using State.afterJudging_outranked (higher := []) fails (by simp) s p r accepted accepted'

/-- The states on acceptance have to agree only where every check passes. -/
theorem State.afterJudging_congr_accepted {checks : List (Bool × Result)} {accepted accepted' : State} (s : State)
    (p : Port) (r : Request) (same : (∀ c ∈ checks, c.1 = false) → accepted = accepted') :
    s.afterJudging p r checks accepted = s.afterJudging p r checks accepted' := by
  by_cases passes : ∀ c ∈ checks, c.1 = false
  · rw [same passes]
  · obtain ⟨⟨fails, c⟩, breaks⟩ := Classical.not_forall.1 passes
    obtain ⟨mem, failed⟩ := Classical.not_imp.1 breaks
    obtain rfl : fails = true := by simpa using failed
    exact State.afterJudging_of_fails mem s p r _ _

/-! ### ANNOTATE: the values taken (R38, R39) -/

theorem Kind.ofCode?_eq {b : Byte} {k : Kind} (named : b.toNat = k.code) : Kind.ofCode? b = some k := by
  obtain rfl : b = BitVec.ofNat 8 k.code := by rw [← named]; simp
  cases k <;> rfl

/-- The kind rule, one line a kind (R38). -/
theorem Kind.needTaken_eq (k : Kind) (n : Nat) : k.needTaken n =
    match k with
    | .plain => min n 3
    | .bearer => if min n 3 = 1 then 2 else min n 3
    | .omitted => 0 := by cases k <;> rfl

/-- A mask byte is changed exactly where it has a bit above the four taken (R39). -/
theorem Operands.mask_kept (b : Byte) : b = 0#4 ++ b.extractLsb' 0 4 ↔ b.toNat < 16 := by
  have := b.isLt
  rw [← BitVec.toNat_inj, BitVec.toNat_append]
  simp only [BitVec.extractLsb'_toNat, BitVec.toNat_ofNat, Nat.zero_shiftLeft, Nat.zero_or, Nat.zero_mod, Nat.shiftRight_zero]
  omega

theorem LiftTarget.legalised_eq (t : LiftTarget) :
    t.legalised = ⟨min t.left 200, min t.right 200, max (-150) (min 150 t.line)⟩ := by
  rw [LiftTarget.legalised, Domain.clamp_eq _ _ _ (by decide)]

theorem PerLane.ne_iff {α : Type} {v w : PerLane α} : v ≠ w ↔ ∃ x, v.get x ≠ w.get x := by
  rw [← Classical.not_forall]
  exact not_congr ⟨fun same x => same ▸ rfl, PerLane.ext_get⟩

/-- The values taken from the needs and masks written under a kind, and a selector (R39). -/
def Annotation.ofBytes (kind : Kind) (n m : PerLane Byte) (selector : LiftSelector) : Annotation :=
  ⟨kind, n.map fun b => kind.needTaken b.toNat, m.map fun b => b.extractLsb' 0 4, selector.legalised⟩

/-- Some value taken differs from the one written (R39, R142). -/
def Annotation.adjusts (kind : Kind) (n m : PerLane Byte) (selector : LiftSelector) : Bool :=
  decide (∃ x ∈ Lane.all, kind.needTaken (n.get x).toNat ≠ (n.get x).toNat ∨ 16 ≤ (m.get x).toNat) ||
    decide (selector ≠ selector.legalised)

theorem State.takeRequest_annotate {s : State} {p : Port} {r : Request} (hands : s.hands p r 0x10)
    {qh ql kb sel left right lh ll : Byte} {n m : PerLane Byte}
    (bytes : r.params = [qh, ql, kb, n.a, n.b, n.c, n.d, m.a, m.b, m.c, m.d, sel, left, right, lh, ll]) {kind : Kind}
    (named : Kind.ofCode? kb = some kind) {selector : LiftSelector}
    (selects : LiftSelector.ofBytes? sel left right lh ll = some selector) :
    s.takeRequest p 0x10 (State.judgeAnnotate p) = (State.respond p r ((s.unqueues p).annotate p (qh ++ ql)
      (Annotation.ofBytes kind n m selector) (Annotation.adjusts kind n m selector))).settle := by
  have adjusted :
      ((n.map BitVec.toNat ≠ (Annotation.ofBytes kind n m selector).needs ||
          m ≠ (Annotation.ofBytes kind n m selector).masks.map fun b => 0#4 ++ b) ||
        selector ≠ (Annotation.ofBytes kind n m selector).selector) = Annotation.adjusts kind n m selector := by
    rw [Bool.eq_iff_iff, Annotation.adjusts]
    simp only [Bool.or_eq_true, decide_eq_true_eq, PerLane.ne_iff, Lane.mem_all, true_and, exists_or]
    refine or_congr (or_congr (exists_congr fun x => ?_) (exists_congr fun x => ?_)) .rfl
    · rw [Annotation.ofBytes, PerLane.get_map, PerLane.get_map]
      exact ne_comm
    · rw [Annotation.ofBytes, PerLane.get_map, PerLane.get_map, ne_eq, Operands.mask_kept, Nat.not_lt]
  rw [State.takeRequest_of_hands hands, State.judgeAnnotate, bytes]
  simp only [named, selects]
  rw [← adjusted]
  rfl

/-- The lane of some record not OPEN would get another need or mask (R40). -/
theorem Entry.laneConflict_eq (e : Entry) (a : Annotation) : e.laneConflict a = decide (∃ x ∈ Lane.all,
    (e.lanes.get x).status ≠ .unclaimed ∧
      ((e.lanes.get x).need ≠ a.needs.get x ∨ (e.lanes.get x).mask ≠ a.masks.get x)) := by
  rw [Bool.eq_iff_iff]
  simp [Entry.laneConflict]

/-- Settles O23. The selector is one of three values; the statement's target is the one the selector gives. -/
theorem annotateWritesTheValuesTaken : Obligations.AnnotateWritesTheValuesTaken := by
  intro p r s qh ql kb sel left right lh ll n m kind hands bytes named few q need line target changed targetOf write written
  have need_eq (b : Byte) : kind.needTaken b.toNat = need b := Kind.needTaken_eq kind b.toNat
  obtain ⟨selector, selects, target_eq, adjusts⟩ : ∃ selector, LiftSelector.ofBytes? sel left right lh ll = some selector ∧
      (∀ e : Entry, selector.legalised.apply e.target = targetOf e) ∧
      decide (selector ≠ selector.legalised) = decide (sel = 1 ∧ target ≠ ⟨left.toNat, right.toNat, line⟩) := by
    have one_of : sel = 0 ∨ sel = 1 ∨ sel = 2 := by bv_omega
    have given : (⟨left.toNat, right.toNat, line⟩ : LiftTarget).legalised = target := LiftTarget.legalised_eq _
    rcases one_of with rfl | rfl | rfl
    · exact ⟨.absent, rfl, fun e => rfl, by simp [LiftSelector.legalised]⟩
    · refine ⟨.given ⟨left.toNat, right.toNat, line⟩, rfl, fun e => ?_, ?_⟩
      · show some _ = some _
        rw [given]
      · rw [LiftSelector.legalised, given]
        simp [eq_comm]
    · exact ⟨.unchanged, rfl, fun e => rfl, by simp [LiftSelector.legalised]⟩
  have adjusted : Annotation.adjusts kind n m selector = changed := by
    simp only [Annotation.adjusts, adjusts, need_eq]
    rfl
  have written_eq (e : Entry) : e.annotated (Annotation.ofBytes kind n m selector) = write e := by
    simp only [Entry.annotated, Annotation.ofBytes, PerLane.get_map, need_eq, target_eq]
    rfl
  show (_ → Host.Outcome.next (s.takeRequest p 0x10 (State.judgeAnnotate p)) = _) ∧
    ∀ e, _ → Host.Outcome.next (s.takeRequest p 0x10 (State.judgeAnnotate p)) = _
  rw [State.takeRequest_annotate hands bytes (Kind.ofCode?_eq named) selects, State.annotate]
  simp only [State.respond_judge, State.unqueues_ofPort, State.unqueues_conditions, State.unqueues_keeps,
    State.unqueues_entry?]
  refine ⟨fun absent => ?_, fun e held => ?_⟩
  · rw [absent, State.afterJudging_of_fails (c := .unknownEntry) (by simp) s p r _ s]
    refine congrArg Host.Outcome.next (State.afterJudging_congr_failing (fun c => ?_) s p r s)
    simp [State.notGeometry, State.frozen]
  · rw [held, adjusted, State.respond_answer, State.unqueues_ofEntry _ _ _ .a e |>.2.1, written_eq]
    refine congrArg Host.Outcome.next ?_
    have lanes : e.laneConflict (Annotation.ofBytes kind n m selector) = decide (∃ x ∈ Lane.all,
        (e.lanes.get x).status ≠ .unclaimed ∧
          ((e.lanes.get x).need ≠ need (n.get x) ∨ (e.lanes.get x).mask ≠ (m.get x).extractLsb' 0 4)) := by
      simp only [Entry.laneConflict_eq, Annotation.ofBytes, PerLane.get_map, need_eq]
    have lift : (decide (s.hold.named? = some q) && e.targetConflict (Annotation.ofBytes kind n m selector)) =
        decide (s.hold.named? = some q ∧ targetOf e ≠ e.target) := by
      rw [Bool.decide_and, Entry.targetConflict, ← target_eq]
      rfl
    have writes : (s.unqueues p).updateEntry q (fun e => e.annotated (Annotation.ofBytes kind n m selector)) =
        { s.unqueues p with list := { s.list with entries := written } } := by
      rw [State.updateEntry]
      simp only [written_eq, State.unqueues_keeps]
      rfl
    rw [writes]
    refine State.afterJudging_congr_failing (fun c => ?_) s p r _
    simp only [Option.any_some, lanes, Option.isNone_some]
    rw [lift]
    simp [State.notGeometry, State.frozen]

/-! ### PLACE (R42 to R44) -/

theorem State.duplicates_eq (s : State) (v : Int) : s.duplicates v =
    decide (∃ f ∈ s.list.entries, (f.position - v).natAbs ≤ s.live.captureWindow) := by
  rw [Bool.eq_iff_iff, State.duplicates, List.any_eq_true, decide_eq_true_iff]
  refine exists_congr fun f => and_congr_right fun _ => ?_
  rw [Flags.within_eq_true]
  omega

theorem State.crowds_eq (s : State) (v : Int) : s.crowds v =
    decide (∃ f ∈ s.list.entries, (f.position - v).natAbs < s.live.minimumSpacing) := by
  rw [Bool.eq_iff_iff, State.crowds, List.any_eq_true, decide_eq_true_iff]
  refine exists_congr fun f => and_congr_right fun _ => ?_
  rw [Flags.within_eq_true]
  omega

/-- The entries below a position, and those above it. -/
def SleeperList.below (v : Int) (es : List Entry) : List Entry := es.filter fun e => decide (e.position < v)

def SleeperList.above (v : Int) (es : List Entry) : List Entry := es.filter fun e => decide (v < e.position)

/-- In rising position a new entry goes between the entries below its position and those above it (R37). -/
theorem SleeperList.insert_eq {e : Entry} {es : List Entry} (rising : SleeperList.rising es)
    (apart : ∀ f ∈ es, f.position ≠ e.position) :
    SleeperList.insert e es = SleeperList.below e.position es ++ e :: SleeperList.above e.position es := by
  induction es with
  | nil => rfl
  | cons f es ih =>
    obtain ⟨later, rising'⟩ := List.pairwise_cons.1 rising
    rw [SleeperList.insert, SleeperList.below, SleeperList.above, List.filter_cons, List.filter_cons]
    split
    next lower =>
      have none_below : es.filter (fun g => decide (g.position < e.position)) = [] := by
        refine List.filter_eq_nil_iff.2 fun g mem => ?_
        have := later g mem
        simp
        omega
      have all_above : es.filter (fun g => decide (e.position < g.position)) = es := by
        refine List.filter_eq_self.2 fun g mem => ?_
        have := later g mem
        simp
        omega
      rw [none_below, all_above, if_neg (by simp; omega), if_pos (by simpa using lower)]
      rfl
    next not_lower =>
      have lower : f.position < e.position := by
        have := apart f List.mem_cons_self
        omega
      rw [if_pos (by simpa using lower), if_neg (by simpa using not_lower),
        ih rising' fun g mem => apart g (List.mem_cons_of_mem f mem)]
      rfl

/-- A position with no entry at it is a tail position exactly where no entry lies above it. -/
theorem State.isTailPosition_eq {s : State} {v : Int} (apart : ∀ f ∈ s.list.entries, f.position ≠ v) :
    s.isTailPosition v = (SleeperList.above v s.list.entries).isEmpty := by
  rw [Bool.eq_iff_iff, State.isTailPosition_eq_true, SleeperList.above, List.isEmpty_iff, List.filter_eq_nil_iff]
  refine forall₂_congr fun f mem => ?_
  have := apart f mem
  simp
  omega

/-- A new entry is found behind the entries below it: no other has its seq (R34). -/
theorem SleeperList.findIdx_new {q : SeqNo} {below above : List Entry} {e : Entry} (named : e.seq = q)
    (fresh : ∀ f ∈ below, f.seq ≠ q) :
    (below ++ e :: above).findIdx (fun f => decide (f.seq = q)) = below.length := by
  induction below with
  | nil => simp [List.findIdx_cons, named]
  | cons f below ih =>
    have other := fresh f List.mem_cons_self
    rw [List.cons_append, List.findIdx_cons, decide_eq_false other,
      ih fun g mem => fresh g (List.mem_cons_of_mem f mem)]
    rfl

theorem State.create_eq {s : State} {v : Int} (w : Nat) (o : Origin) (rising : SleeperList.rising s.list.entries)
    (apart : ∀ f ∈ s.list.entries, f.position ≠ v) :
    s.create v w o = ({ s with list := { s.list with
      entries := SleeperList.below v s.list.entries ++
        s.newEntry v w o ((SleeperList.above v s.list.entries).isEmpty && s.list.pendingGap) ::
          SleeperList.above v s.list.entries
      nextSeq := s.list.takenSeq + 1
      pendingGap := s.list.pendingGap && !(SleeperList.above v s.list.entries).isEmpty
      created := s.list.created + 1 } } : State).raise .entryAdded := by
  rw [State.create, State.isTailPosition_eq apart]
  dsimp only
  rw [SleeperList.insert_eq rising apart]
  rfl

/-- Settles O24. Where every check passes no entry lies at the position, so the new entry has a place of its own. -/
theorem placeCreatesAnEntry : Obligations.PlaceCreatesAnEntry := by
  intro p r s b3 b2 b1 b0 wh wl hands bytes ordered spacing v w below above e
  obtain ⟨few, -, rising⟩ := ordered
  have full : decide (48 ≤ s.list.entries.length) = decide (s.list.entries.length = 48) := by
    rw [decide_eq_decide]
    omega
  show Host.Outcome.next (s.takeRequest p 0x11 (State.judgePlace p)) = _
  rw [State.takeRequest_of_hands hands, State.judgePlace, bytes]
  simp only [State.place, State.respond_judge, State.respond_answer, State.unqueues_ofPort, State.unqueues_conditions,
    State.unqueues_keeps, AxisUnit.not_inLimit, State.duplicates_eq, State.crowds_eq, full]
  refine congrArg Host.Outcome.next (State.afterJudging_congr_accepted s p r fun passes => ?_)
  simp only [List.forall_mem_cons] at passes
  obtain ⟨-, -, -, -, -, uncrowded, -, -⟩ := passes
  have apart : ∀ f ∈ s.list.entries, f.position ≠ v :=
    State.apart_of_not_crowds spacing ((State.crowds_eq s v).trans uncrowded)
  have created := State.create_eq (s := s.unqueues p) (v := v) (min w 600) .placed rising apart
  have fresh : ∀ f ∈ below, f.seq ≠ s.list.takenSeq := by
    obtain ⟨-, -, -, new, -⟩ := SleeperList.takenSeq_spec few
    exact fun f mem same => new (same ▸ List.mem_map_of_mem ((List.mem_filter.1 mem).1))
  have index : ((s.unqueues p).create v (min w 600) .placed).indexOf s.list.takenSeq = below.length := by
    rw [created]
    exact SleeperList.findIdx_new rfl fresh
  have result : Operands.taken (decide (600 < w)) = if 600 < w then .adjusted else .accepted := by
    simp [Operands.taken]
  show ((s.unqueues p).create v (min w 600) .placed).answers p r (Operands.taken (decide (600 < w)))
    (Operands.carry2 s.list.takenSeq ++
      Operands.carry1 (((s.unqueues p).create v (min w 600) .placed).indexOf s.list.takenSeq)) = _
  rw [index, result, created]
  rfl

end Sys2Proof.Machine
end

section
/-! PROOFS. Tine-depth lines and lane faults (R74 to R76, R83, R84). -/

namespace Sys2Proof.Machine

/-! ### What the debounced level leaves (R74) -/

/-- The debounced level of lane x has been taken; the assertion or release is still to come. -/
def State.seesLevel (s : State) (x : Lane) (active : Bool) : State :=
  { s with lanes := s.lanes.modify x fun l => { l with tdnActive := active, debounce := none } }

theorem State.takeDebounced_eq (s : State) (x : Lane) : s.takeDebounced x =
    if s.tdnLineActive x then (s.seesLevel x true).takeAssertion x else (s.seesLevel x false).takeRelease x := by
  unfold State.takeDebounced
  cases s.tdnLineActive x <;> rfl

section
variable (s : State) (x : Lane) (active : Bool)

theorem State.seesLevel_lane : (s.seesLevel x active).lane x =
    { s.lane x with tdnActive := active, debounce := none } := by
  simp [State.seesLevel, State.lane]

theorem State.seesLevel_state : ((s.seesLevel x active).lane x).state = (s.lane x).state := by rw [State.seesLevel_lane]

theorem State.seesLevel_permit : (s.seesLevel x active).permit x = s.permit x := by
  unfold State.permit
  rw [State.seesLevel_lane]
  rfl

end

theorem exec_assertion {s : State} {x : Lane} {ms : Nat} (released : s.inReset = false)
    (measured : (s.lane x).debounce = some ms) (due : s.live.tdnDebounce ≤ ms) (line : s.tdnLineActive x = true)
    (level : (s.lane x).tdnActive = false) :
    exec (.assertion x) s = .next ((s.seesLevel x true).takeAssertion x).settle := by
  have reached : s.reaches (.assertion x) = true := (s.reaches_iff _).2 ⟨ms, measured, due, line, level⟩
  show Host.Outcome.next (if !s.inReset && s.reaches (.assertion x) then (s.takeDebounced x).settle else s) = _
  rw [released, reached, State.takeDebounced_eq, line]
  rfl

theorem exec_release {s : State} {x : Lane} {ms : Nat} (released : s.inReset = false)
    (measured : (s.lane x).debounce = some ms) (due : s.live.tdnDebounce ≤ ms) (line : s.tdnLineActive x = false)
    (level : (s.lane x).tdnActive = true) :
    exec (.release x) s = .next ((s.seesLevel x false).takeRelease x).settle := by
  have reached : s.reaches (.release x) = true := (s.reaches_iff _).2 ⟨ms, measured, due, line, level⟩
  show Host.Outcome.next (if !s.inReset && s.reaches (.release x) then (s.takeDebounced x).settle else s) = _
  rw [released, reached, State.takeDebounced_eq, line]
  rfl

/-! ### An assertion by lane state (R74) -/

theorem State.unpermittedDescent_of_state {s : State} {x : Lane} {st : LaneState} (state : (s.lane x).state = st) :
    s.unpermittedDescent x =
      (s.faultLane x .unpermittedDescent st.code).handCause .unpermittedDescent (.lane x) st.named? := by
  rw [State.unpermittedDescent, state]

/-- Settles O27. -/
theorem assertionByLaneState : Obligations.AssertionByLaneState := by
  intro x s ms released measured due line level seen descent
  have ran : exec (.assertion x) s = .next (seen.takeAssertion x).settle := exec_assertion released measured due line level
  have seen_state : (seen.lane x).state = (s.lane x).state := s.seesLevel_state x true
  have seen_permit : seen.permit x = s.permit x := s.seesLevel_permit x true
  have taken {st : LaneState} (state : (s.lane x).state = st) :
      seen.unpermittedDescent x =
        (seen.faultLane x .unpermittedDescent (s.lane x).state.code).handCause .unpermittedDescent (.lane x) st.named? := by
    rw [State.unpermittedDescent_of_state (seen_state.trans state), state]
  refine ⟨fun off => ?_, fun idle => ?_, fun q orphaned => ?_, fun q claimed barred => ?_,
    fun q claimed permitted few => ?_, fun q claimed permitted done => ?_, fun fault => ?_⟩ <;>
    rw [ran, State.takeAssertion, seen_state]
  · rw [off]
  · rw [idle, taken idle]
    rfl
  · rw [orphaned, taken orphaned]
    rfl
  · rw [claimed]
    dsimp only
    rw [seen_permit, barred, taken claimed]
    rfl
  · rw [claimed]
    dsimp only
    rw [seen_permit, permitted]
    exact congrArg (fun t => Host.Outcome.next (State.settle t)) ((if_pos rfl).trans (if_pos few))
  · rw [claimed]
    dsimp only
    rw [seen_permit, permitted]
    have none_left : ¬ seen.squeezesDone q x < 3 := by
      rw [show seen.squeezesDone q x = 3 from done]
      simp
    have detail : seen.squeezesDone q x = 3 := done
    rw [if_pos rfl, if_neg none_left, detail]
  · rw [fault]
    rfl

/-! ### A line that changes, and a release (R74, R75) -/

/-- Settles O28. -/
theorem tdnLineAndReleaseAreTaken : Obligations.TdnLineAndReleaseAreTaken := by
  refine ⟨fun x level s => ⟨fun same => ?_, fun changes released => ?_⟩, fun x s ms released measured due line level => ?_⟩
  · exact if_pos same
  · refine (if_neg changes).trans (congrArg Host.Outcome.next ((if_neg ?_).trans ?_))
    · exact Bool.not_eq_true _ ▸ released
    · rw [State.remeasure, State.tdnLineActive, PerLane.get_set, if_pos rfl]
      rfl
  · intro counted
    have state : ((s.seesLevel x false).lane x).state = (s.lane x).state :=
      s.seesLevel_state x false
    rw [exec_release released measured due line level, State.takeRelease, state]
    cases (s.lane x).state with
    | down q ms =>
      dsimp only [State.countSqueeze, State.setLane, State.updateLane, State.updateLaneRecord, State.updateEntry,
        State.seesLevel]
      simp only [PerLane.modify_modify]
      rfl
    | orphaned q =>
      dsimp only [State.countSqueeze, State.setLane, State.updateLane, State.updateLaneRecord, State.updateEntry,
        State.seesLevel]
      simp only [PerLane.modify_modify]
      rfl
    | off => rfl
    | idle => rfl
    | claimed q => rfl
    | fault => rfl

/-! ### A lane fault (R83, R117) -/

/-- Lane x after it has entered FAULT, with its record (R83). -/
def LaneController.faulted (l : LaneController) (cause : LaneFaultCause) (axis : Int) (detail : Nat) : LaneController :=
  { l with state := .fault, fault := some ⟨cause, l.state.named?, axis, detail, 0⟩ }

/-- The entry's side of a fault reads and writes nothing of the lanes. -/
theorem State.failEntry_lanes (s : State) (x : Lane) (named : Option SeqNo) (l : PerLane LaneController) :
    ({ s with lanes := l } : State).failEntry x named = { s.failEntry x named with lanes := l } := by
  cases named with
  | none => rfl
  | some q => exact State.retireFrom_lanes _ _ (s.setStatus q x .failed) l

/-- A fault is the entry's side of it, the lane's record, LANE_FAULT, and the end of a grant. -/
theorem State.faultLane_eq (s : State) (x : Lane) (cause : LaneFaultCause) (detail : Nat) :
    s.faultLane x cause detail = (({ s.failEntry x (s.lane x).state.named? with
      lanes := s.lanes.modify x fun l => l.faulted cause s.axis.axis detail } : State).raise
        (.laneFault x)).endGrantIfAny := by
  have lanes : (s.lanes.modify x fun l =>
      { l with fault := some ⟨cause, (s.lane x).state.named?, s.axis.axis, detail, 0⟩, state := .fault }) =
      s.lanes.modify x fun l => l.faulted cause s.axis.axis detail := by
    refine PerLane.ext_get fun y => ?_
    rw [PerLane.get_modify, PerLane.get_modify]
    rfl
  rw [State.faultLane, State.updateLane, lanes]
  dsimp only
  rw [State.failEntry_lanes]

theorem State.failEntry_frame (s : State) (x : Lane) (named : Option SeqNo) : s.failEntry x named =
    { s with events := (s.failEntry x named).events, list := (s.failEntry x named).list,
             passages := (s.failEntry x named).passages } := by
  cases named with
  | none => rfl
  | some q => exact State.retire_frame _

theorem State.endGrantIfAny_frame (s : State) :
    s.endGrantIfAny = { s with events := s.endGrantIfAny.events, motion := s.endGrantIfAny.motion } := by
  unfold State.endGrantIfAny
  split <;> rfl

theorem State.endGrantIfAny_motion (s : State) : s.endGrantIfAny.motion =
    if s.motion.state.isGranted then ⟨.halt, s.axis.axis⟩ else s.motion := by
  unfold State.endGrantIfAny
  split <;> rfl

theorem State.raisesOnly_endGrantIfAny (s : State) : s.raisesOnly s.endGrantIfAny [.moveEnded] := by
  unfold State.endGrantIfAny
  split
  · exact s.raisesOnly_endGrant
  · exact State.raisesOnly_refl s _

theorem State.raisesOnly_failEntry (s : State) (x : Lane) (named : Option SeqNo) :
    s.raisesOnly (s.failEntry x named) [.entryDeparted, .passageOverflow, .straggler] := by
  cases named with
  | none => exact State.raisesOnly_refl s _
  | some q => exact State.raisesOnly_trans (State.raisesOnly_of_events rfl _) (State.raisesOnly_retire _)

theorem State.hasLatched_failEntry {s : State} {x : Lane} {named : Option SeqNo} {p : Port} {e : Event}
    (other : e.number ≠ 15 ∧ e.number ≠ 19 ∧ e.number ≠ 20) :
    (s.failEntry x named).hasLatched p e ↔ s.hasLatched p e := by
  cases named with
  | none => exact .rfl
  | some q => exact State.hasLatched_retire other

/-- Settles O29. -/
theorem laneFaultEndsTheClaim : Obligations.LaneFaultEndsTheClaim := by
  refine ⟨fun s x cause detail => ?_, fun x s q ms released down due => ?_⟩
  · intro t failed
    have failed_eq : failed = s.failEntry x (s.lane x).state.named? := by
      cases h : (s.lane x).state.named? <;> simp only [failed, h] <;> rfl
    have t_eq : t = _ := s.faultLane_eq x cause detail
    rw [← failed_eq] at t_eq
    have frame : failed = { s with events := failed.events, list := failed.list, passages := failed.passages } := by
      rw [failed_eq]
      exact State.failEntry_frame s x _
    have kept : failed.motion = s.motion ∧ failed.axis = s.axis ∧ failed.store = s.store := by
      rw [frame]
      exact ⟨rfl, rfl, rfl⟩
    obtain ⟨motion, axis, store⟩ := kept
    have role (p : Port) : failed.portRole p = s.portRole p := by simp only [State.portRole, State.live, store]
    have latched (p : Port) (e : Event) : t.hasLatched p e ↔ failed.hasLatched p e ∨
        (Event.number (.laneFault x) = e.number ∧ Event.targets (.laneFault x) p (s.portRole p) = true) ∨
        (s.motion.state.isGranted = true ∧ Event.moveEnded.number = e.number ∧
          Event.moveEnded.targets p (s.portRole p) = true) := by
      rw [t_eq, State.hasLatched_endGrantIfAny, State.hasLatched_raise, ← role, ← motion, or_assoc]
      rfl
    have failed_latched {p : Port} {e : Event} (other : e.number ≠ 15 ∧ e.number ≠ 19 ∧ e.number ≠ 20) :
        failed.hasLatched p e ↔ s.hasLatched p e := by
      rw [failed_eq, State.hasLatched_failEntry other]
    refine ⟨?_, ?_, ?_, ?_, fun p => ?_, fun p => ?_, fun p e mem => ?_, ?_, ?_⟩
    · rw [t_eq]
      simp only [State.endGrantIfAny_keeps, State.raise_keeps]
      rfl
    · rw [t_eq]
      simp only [State.endGrantIfAny_keeps, State.raise_keeps]
    · rw [t_eq]
      simp only [State.endGrantIfAny_keeps, State.raise_keeps]
    · rw [t_eq, State.endGrantIfAny_motion]
      simp only [State.raise_keeps, motion, axis]
    · rw [latched, failed_latched (by simp [Event.number])]
      simp [Event.number]
    · rw [latched, failed_latched (by simp [Event.number])]
      simp [Event.number]
    · rw [latched]
      simp only [List.mem_cons, List.not_mem_nil, or_false] at mem
      rcases mem with rfl | rfl | rfl <;> simp [Event.number]
    · rw [t_eq, failed_eq]
      refine State.raisesOnly_trans (State.raisesOnly_mono (s.raisesOnly_failEntry x _) (by simp))
        (State.raisesOnly_trans (State.raisesOnly_of_events rfl _) (State.raisesOnly_trans
          (State.raisesOnly_raise _ (e := .laneFault x) (by simp))
          (State.raisesOnly_mono (State.raisesOnly_endGrantIfAny _) (by simp))))
    · rw [t_eq, State.endGrantIfAny_frame, frame]
      rfl
  · have reached : s.reaches (.downTimerExpiry x) = true := (s.reaches_iff _).2 ⟨q, ms, down, due⟩
    refine ⟨_, ?_, rfl, ?_⟩
    · show Host.Outcome.next (if !s.inReset && s.reaches (.downTimerExpiry x) then (s.expireDown x).settle else s) = _
      rw [released, reached, State.expireDown, down]
      rfl
    · rw [State.faultLane_eq]
      simp only [State.settle_keeps, State.endGrantIfAny_keeps, State.raise_keeps]
      rw [State.failEntry_frame]

end Sys2Proof.Machine
end

section
/-! PROOFS. The requests of the claim protocol: CLAIM, FINISH, WAIVE, ADOPT, CLEAR LANE (R77 to R82). -/

namespace Sys2Proof.Machine

/-! ### The lane of the sender's role -/

theorem State.judgeOnLane_of_role {s : State} {p : Port} {x : Lane} (sender : s.roleOf p = .unit x)
    (onLane : Lane → Reply) : s.judgeOnLane p onLane = onLane x := by
  simp only [State.judgeOnLane, State.laneOf?, sender]

theorem State.judgeOnLane_unqueues {s : State} {p : Port} {x : Lane} (sender : s.roleOf p = .unit x)
    (onLane : Lane → Reply) : (s.unqueues p).judgeOnLane p onLane = onLane x :=
  State.judgeOnLane_of_role (s := s.unqueues p) sender onLane

/-! ### CLAIM (R77, R78) -/

/-- The clearance mask covers an obstacle mask unless some quarter is obstructed and not cleared (R77). -/
theorem LaneRecord.not_isCovered (r : LaneRecord) (mask : Byte) : (!r.isCovered (mask.extractLsb' 0 4)) =
    decide (∃ i : Fin 4, r.mask.getLsbD i = true ∧ mask.getLsbD i = false) := by
  rw [Bool.eq_iff_iff, Bool.not_eq_true', LaneRecord.isCovered, decide_eq_false_iff_not, decide_eq_true_iff,
    BitVec.eq_of_getLsbD_eq_iff]
  constructor
  · intro uncovered
    obtain ⟨i, breaks⟩ := Classical.not_forall.1 uncovered
    obtain ⟨inside, set⟩ := Classical.not_imp.1 breaks
    refine ⟨⟨i, inside⟩, ?_⟩
    simpa [inside] using set
  · rintro ⟨i, set, clear⟩ covered
    have kept : r.mask.getLsbD i = false := by simpa [clear] using covered i i.isLt
    exact absurd (set.symm.trans kept) (by decide)

/-- A mask is carried in the low half of a byte (R144). -/
theorem Operands.mask_carried (m : BitVec 4) : (0#4 ++ m : Byte) = BitVec.ofNat 8 m.toNat := by
  have := m.isLt
  apply BitVec.eq_of_toNat_eq
  rw [BitVec.toNat_append]
  simp
  omega

theorem State.not_aligned (s : State) (x : Lane) (e : Entry) : (!s.aligned x e) =
    decide (s.live.claimWindow < (e.position - (s.axis.axis + s.live.laneOffset.get x)).natAbs) := by
  rw [Bool.eq_iff_iff, Bool.not_eq_true', decide_eq_true_iff, ← Bool.not_eq_true, State.aligned, Flags.within_eq_true]
  omega

theorem State.claimData_eq (s : State) (x : Lane) (e : Entry) : s.claimData x e = Operands.carry2 e.seq ++
    ([BitVec.ofNat 8 (e.lanes.get x).need, BitVec.ofNat 8 (e.lanes.get x).mask.toNat,
      BitVec.ofNat 8 (e.lanes.get x).squeezes, BitVec.ofNat 8 e.kind.code, BitVec.ofNat 8 s.hold.code] ++
        Operands.carrySeq? s.hold.named?) := by
  simp only [State.claimData, Operands.mask_carried, Operands.carry1, List.append_assoc, List.cons_append, List.nil_append]

theorem LaneState.not_isIdle (l : LaneState) : (!l.isIdle) = decide (l ≠ .idle) := by cases l <;> rfl

/-- A check that fails and has the lowest code of those listed gives the refusal; the checks after it do not tell. -/
theorem State.afterJudging_first {c : Result} {rest : List (Bool × Result)} (above : ∀ d ∈ rest, c.code ≤ d.2.code)
    (s : State) (p : Port) (r : Request) (accepted : State) :
    s.afterJudging p r ((true, c) :: rest) accepted = (s.refuses p r c).settle := by
  refine State.afterJudging_of_lowest (by simp) (fun d mem => ?_) s p r accepted
  rcases List.mem_cons.1 mem with same | later
  · obtain ⟨-, rfl⟩ := Prod.mk.inj same
    exact Nat.le_refl _
  · exact above _ later

/-- A check that passes does not tell. -/
theorem State.afterJudging_passed (c : Result) (rest : List (Bool × Result)) (s : State) (p : Port) (r : Request)
    (accepted : State) : s.afterJudging p r ((false, c) :: rest) accepted = s.afterJudging p r rest accepted :=
  State.afterJudging_congr_failing (fun d => by simp) s p r accepted

/-- Settles O30. -/
theorem claimNamesTheEntry : Obligations.ClaimNamesTheEntry := by
  intro p r s hi lo mask x hands bytes sender q
  have ran : exec (.claim p) s = .next (State.respond p r
      (if mask.toNat < 16 then (s.unqueues p).claim q (mask.extractLsb' 0 4) x
        else Reply.refuse (s.unqueues p) .malformed)).settle := by
    show Host.Outcome.next (s.takeRequest p 0x20 (State.judgeClaim p)) = _
    rw [State.takeRequest_of_hands hands, State.judgeClaim, bytes]
    simp only [State.judgeOnLane_unqueues sender]
    rfl
  rw [ran]
  rcases Nat.lt_or_ge mask.toNat 16 with fits | beyond
  · have passes : decide (16 ≤ mask.toNat) = false := decide_eq_false (Nat.not_le.2 fits)
    rw [if_pos fits, passes, State.claim]
    simp only [State.respond_judge, State.unqueues_conditions, State.unqueues_keeps, State.unqueues_entry?,
      (State.unqueues_ofLane s p x)]
    refine ⟨fun absent => ?_, fun e held => ?_⟩
    · rw [absent]
      have refused (accepted : State) := State.afterJudging_outranked (c := .unknownEntry)
        (checks := [(s.frozen, .frozen), (true, .unknownEntry)])
        (higher := [(!(s.lane x).state.isIdle, .wrongState), (false, .wrongState), (false, .wrongState),
          (s.motion.state.isGranted, .moving), (false, .outOfWindow), (false, .obstacle)])
        (by simp) (by simp [Result.code]) s p r accepted s
      refine congrArg Host.Outcome.next ((refused _).trans (State.afterJudging_congr_failing (fun c => ?_) s p r s))
      simp [State.frozen]
    · have seq : e.seq = q := State.seq_of_entry? held
      rw [held]
      have data : (s.unqueues p).claimData x e = s.claimData x e := rfl
      simp only [Option.any_some, Option.isNone_some, data, State.not_aligned, LaneRecord.not_isCovered,
        LaneState.not_isIdle, State.respond_answer, State.claimData_eq, seq]
      rw [show q = Operands.word hi lo from rfl, Operands.carry2_word]
      refine congrArg Host.Outcome.next (State.afterJudging_congr_failing (fun c => ?_) s p r _)
      simp [State.frozen]
  · rw [if_neg (Nat.not_lt.2 beyond), decide_eq_true beyond, State.respond_refuse]
    refine ⟨fun _ => ?_, fun e _ => ?_⟩
    · rw [State.afterJudging_first (by simp [Result.code])]
    · dsimp only
      rw [State.afterJudging_first (by simp [Result.code])]

/-! ### FINISH and WAIVE (R79, R80) -/

theorem exec_finish {s : State} {p : Port} {r : Request} (hands : s.hands p r 0x21) (none_given : r.params = []) {x : Lane}
    (sender : s.roleOf p = .unit x) : exec (.finish p) s = .next (State.respond p r ((s.unqueues p).finish x)).settle := by
  show Host.Outcome.next (s.takeRequest p 0x21 (State.judgeFinish p)) = _
  rw [State.takeRequest_of_hands hands, State.judgeFinish, none_given]
  simp only [State.judgeOnLane_unqueues sender]

theorem exec_waive {s : State} {p : Port} {r : Request} (hands : s.hands p r 0x22) {hi lo : Byte}
    (bytes : r.params = [hi, lo]) {x : Lane} (sender : s.roleOf p = .unit x) :
    exec (.waive p) s = .next (State.respond p r ((s.unqueues p).waive (Operands.word hi lo) x)).settle := by
  show Host.Outcome.next (s.takeRequest p 0x22 (State.judgeWaive p)) = _
  rw [State.takeRequest_of_hands hands, State.judgeWaive, bytes]
  simp only [State.judgeOnLane_unqueues sender]

/-- Settles O31. -/
theorem finishAndWaiveEndTheClaim : Obligations.FinishAndWaiveEndTheClaim := by
  refine ⟨fun p r s x hands none_given sender => ?finish, fun p r s hi lo x hands bytes sender => ?waive⟩
  case finish =>
    have lane : (s.unqueues p).lane x = s.lane x := rfl
    rw [exec_finish hands none_given sender, State.finish, lane]
    refine ⟨fun q e claimed held => ?_, fun q ms down => ?_, fun other => ?_⟩
    · have record : (s.unqueues p).laneRecord? q x = some (e.lanes.get x) := by
        rw [State.laneRecord?, State.unqueues_entry?, held]
        rfl
      rw [claimed]
      dsimp only
      rw [State.finishClaim, record]
      dsimp only
      split
      · rw [State.respond_refuse]
      · rw [State.respond_answer]
        rfl
    · rw [down]
      dsimp only
      rw [State.respond_refuse]
    · rcases other with off | idle | fault | ⟨q, orphaned⟩
      · rw [off, ← State.respond_refuse]
      · rw [idle, ← State.respond_refuse]
      · rw [fault, ← State.respond_refuse]
      · rw [orphaned, ← State.respond_refuse]
  case waive =>
    intro q
    have lane : (s.unqueues p).lane x = s.lane x := rfl
    rw [exec_waive hands bytes sender, State.waive, State.unqueues_entry?]
    refine ⟨fun absent => ?_, fun e held => ?_⟩
    · rw [show s.entry? (Operands.word hi lo) = none from absent, ← State.respond_refuse]
    · rw [show s.entry? (Operands.word hi lo) = some e from held]
      dsimp only
      rw [State.waiveEntry, lane]
      cases (s.lane x).state with
      | claimed c =>
        dsimp only
        split
        next same =>
          rw [if_pos (show c = q from same), State.respond_answer, Operands.carry2_word]
          rfl
        next other => rw [if_neg (show ¬ c = q from other), State.respond_refuse]
      | idle =>
        dsimp only
        split
        · rw [State.respond_answer, Operands.carry2_word]
          rfl
        · rw [State.respond_refuse]
      | _ =>
        dsimp only
        rw [State.respond_refuse]

/-! ### ADOPT and CLEAR LANE (R81, R82) -/

theorem exec_adopt {s : State} {p : Port} {r : Request} (hands : s.hands p r 0x23) (none_given : r.params = []) {x : Lane}
    (sender : s.roleOf p = .unit x) : exec (.adopt p) s = .next (State.respond p r ((s.unqueues p).adopt x)).settle := by
  show Host.Outcome.next (s.takeRequest p 0x23 (State.judgeAdopt p)) = _
  rw [State.takeRequest_of_hands hands, State.judgeAdopt, none_given]
  simp only [State.judgeOnLane_unqueues sender]

theorem LaneState.isClearable_iff (l : LaneState) : l.isClearable = true ↔ l = .fault ∨ ∃ q, l = .orphaned q := by
  constructor
  · intro clearable
    cases l with
    | fault => exact .inl rfl
    | orphaned q => exact .inr ⟨q, rfl⟩
    | _ => exact absurd clearable Bool.false_ne_true
  · rintro (rfl | ⟨q, rfl⟩) <;> rfl

/-- CLEAR LANE is judged on the sender, on the lane state and on the tines of a lane that could be cleared. -/
theorem exec_clearLane {s : State} {p : Port} {r : Request} (hands : s.hands p r 0x24) {b : Byte} (byte : r.params = [b])
    {x : Lane} (named : b.toNat = Lane.code x) : exec (.clearLane p) s = .next (s.afterJudging p r
      [(!s.mayClear p x, .noRight), (!(s.lane x).state.isClearable, .wrongState),
        ((s.lane x).state.isClearable && (s.lane x).tdnActive, .lanesDown)]
      (((s.unqueues p).clearLaneState x).answers p r .accepted [b, BitVec.ofNat 8 (s.lane x).state.code])) := by
  have carried : BitVec.ofNat 8 (Lane.code x) = b := by rw [← named]; simp
  show Host.Outcome.next (s.takeRequest p 0x24 (State.judgeClearLane p)) = _
  rw [State.takeRequest_of_hands hands, State.judgeClearLane, byte]
  simp only [Lane.ofCode?_eq named, State.clearLane, State.respond_judge, State.respond_answer, Operands.carry1, carried,
    List.cons_append, List.nil_append, State.unqueues_ofLane, State.mayClear, State.unqueues_ofPort]

/-- Settles O32. -/
theorem adoptAndClearLaneComeBack : Obligations.AdoptAndClearLaneComeBack := by
  refine ⟨fun p r s x hands none_given sender => ?adopt, fun p r s b x hands byte named => ?clearLane⟩
  case adopt =>
    have lane : (s.unqueues p).lane x = s.lane x := rfl
    rw [exec_adopt hands none_given sender, State.adopt, lane]
    refine ⟨fun q e orphaned held => ?_, fun other => ?_⟩
    · have data : (s.unqueues p).adoptData x q = s.claimData x e := by
        rw [State.adoptData, State.unqueues_entry?, held]
        rfl
      rw [orphaned]
      dsimp only
      rw [data]
      split
      · rw [State.respond_refuse]
      · rw [State.respond_answer]
    · cases state : (s.lane x).state with
      | orphaned q => exact absurd state (other q)
      | _ => rw [← State.respond_refuse]
  case clearLane =>
    intro cleared clearable barred
    have clearable_iff : clearable ↔ (s.lane x).state.isClearable = true := (LaneState.isClearable_iff _).symm
    have barred_iff : barred ↔ s.mayClear p x = false := by simp [barred, State.mayClear]
    rw [exec_clearLane hands byte named]
    have sent (may : ¬ barred) : s.mayClear p x = true := Bool.not_eq_false _ ▸ mt barred_iff.2 may
    refine ⟨fun bars => ?_, fun may stands => ?_, fun may clears down => ?_, fun may clears up => ?_⟩
    · rw [barred_iff.1 bars]
      exact congrArg Host.Outcome.next (State.afterJudging_first (by simp [Result.code]) s p r _)
    · rw [sent may, Bool.eq_false_iff.2 (stands ∘ clearable_iff.2)]
      exact congrArg Host.Outcome.next ((State.afterJudging_passed _ _ s p r _).trans
        (State.afterJudging_first (by simp [Result.code]) s p r _))
    · rw [sent may, clearable_iff.1 clears, down, State.afterJudging_of_lowest (c := .lanesDown) (by simp) (by simp)]
    · have state : (s.unqueues p).clearLaneState x = cleared := by
        rcases clears with fault | ⟨q, orphaned⟩
        · simp only [State.clearLaneState, cleared, State.unqueues_ofLane, fault]
        · simp only [State.clearLaneState, cleared, State.unqueues_ofLane, orphaned]
          rfl
      rw [sent may, clearable_iff.1 clears, up, state, State.afterJudging_of_passes (by simp)]

end Sys2Proof.Machine
end

section
/-! PROOFS. The lift hold: HOLD TAKE, HOLD DROP, and the two hold timers (R96 to R103). -/

namespace Sys2Proof.Machine

/-! ### The hold timers (R99, R101) -/

/-- Settles O36. -/
theorem holdTimersExpire : Obligations.HoldTimersExpire := by
  refine fun s q t ms released => ⟨fun lifting due => ?_, fun held due => ?_⟩
  · have reached : s.reaches .liftTimerExpiry = true := (s.reaches_iff _).2 ⟨q, t, ms, lifting, due⟩
    show Host.Outcome.next (if !s.inReset && s.reaches .liftTimerExpiry then s.expireLift.settle else s) = _
    rw [released, reached, State.expireLift, lifting]
    rfl
  · have reached : s.reaches .overdueTimerExpiry = true := (s.reaches_iff _).2 ⟨q, t, ms, held, due⟩
    show Host.Outcome.next (if !s.inReset && s.reaches .overdueTimerExpiry then s.expireOverdue.settle else s) = _
    rw [released, reached, State.expireOverdue, held]
    rfl

/-! ### HOLD TAKE (R96 to R98) -/

theorem State.not_entryHasWork (s : State) (e : Entry) : (!s.entryHasWork e) =
    decide (¬ ∃ x ∈ Lane.all, s.isFitted x = true ∧ 0 < (e.lanes.get x).need ∧
      ((e.lanes.get x).status = .unclaimed ∨ (e.lanes.get x).status = .claimed)) := by
  rw [decide_not]
  refine congrArg not ?_
  rw [Bool.eq_iff_iff]
  simp [State.entryHasWork, LaneRecord.hasWork]

theorem State.not_inHoldWindow (s : State) (e : Entry) : (!s.inHoldWindow e) =
    decide (s.live.holdWindow < (e.position - s.axis.axis).natAbs) := by
  rw [Bool.eq_iff_iff, Bool.not_eq_true', decide_eq_true_iff, ← Bool.not_eq_true, State.inHoldWindow, Flags.within_eq_true]
  omega

theorem State.isDeepLift_eq (s : State) (t : LiftTarget) : s.isDeepLift t =
    decide (s.live.deepLift ≠ 0 ∧ (s.live.deepLift ≤ t.left ∨ s.live.deepLift ≤ t.right)) := by
  rw [Bool.eq_iff_iff]
  simp only [State.isDeepLift, Bool.and_eq_true, decide_eq_true_eq]
  refine and_congr_right fun _ => ?_
  omega

/-- A lane record after a HOLD TAKE, where the deep-lift rule applies or not (R98). -/
def LaneRecord.raisedBy (deep : Bool) (r : LaneRecord) : LaneRecord := if deep && r.isRaised then { r with need := 2 } else r

theorem LaneRecord.isRaised_eq (r : LaneRecord) :
    r.isRaised = decide (r.need = 1 ∧ (r.status = LaneStatus.unclaimed ∨ r.status = .claimed)) := by
  rw [Bool.eq_iff_iff]
  simp [LaneRecord.isRaised]

theorem LaneRecord.raisedBy_false : LaneRecord.raisedBy false = id := rfl

theorem LaneRecord.raisedBy_true : LaneRecord.raisedBy true = LaneRecord.deepRaised := by
  funext r
  rw [LaneRecord.raisedBy, Bool.true_and, LaneRecord.deepRaised]

theorem PerLane.map_id {α : Type} (v : PerLane α) : v.map id = v := rfl

/-- The hold taken, written the same with and without the deep-lift raise (R97, R98). -/
theorem State.standHold_eq (s : State) (e : Entry) (t : LiftTarget) : s.standHold e t =
    { s with
      list := { s.list with entries := s.list.entries.map fun f =>
        if f.seq = e.seq then { f with lanes := f.lanes.map (LaneRecord.raisedBy (s.isDeepLift t)) } else f }
      hold := .lifting e.seq t 0 } := by
  rw [State.standHold]
  cases s.isDeepLift t with
  | true => rw [LaneRecord.raisedBy_true]; rfl
  | false =>
    have same : (s.list.entries.map fun f =>
        if f.seq = e.seq then { f with lanes := f.lanes.map (LaneRecord.raisedBy false) } else f) = s.list.entries := by
      refine (List.map_congr_left fun f _ => ?_).trans (List.map_id _)
      rw [LaneRecord.raisedBy_false, PerLane.map_id]
      exact ite_self f
    rw [same]
    rfl

theorem State.holdTakeData_eq (s : State) (e : Entry) (t : LiftTarget) : s.holdTakeData e t =
    Operands.carry2 e.seq ++ t.carried ++ [if s.isDeepLift t then 1 else 0]
      ++ (Lane.all.map fun x => BitVec.ofNat 8 ((e.lanes.get x).raisedBy (s.isDeepLift t)).need)
      ++ [BitVec.ofNat 8 (Operands.laneSet (e.lanes.map fun r => s.isDeepLift t && r.isRaised))] := by
  have after : (if s.isDeepLift t then e.deepRaised else e).lanes.toList =
      Lane.all.map fun x => (e.lanes.get x).raisedBy (s.isDeepLift t) := by
    cases s.isDeepLift t with
    | true => rw [LaneRecord.raisedBy_true]; rfl
    | false => rfl
  rw [State.holdTakeData, after, List.map_map]
  rfl

/-- A HOLD TAKE of an entry that the list holds is judged on the sender, the freeze, the hold, the entry, the motion and
the axis (R96). -/
theorem exec_holdTake_of_some {s : State} {p : Port} {r : Request} (hands : s.hands p r 0x14) {hi lo : Byte}
    (bytes : r.params = [hi, lo]) {e : Entry} (held : s.entry? (Operands.word hi lo) = some e) :
    exec (.holdTake p) s = .next (s.afterJudging p r
      [(s.notGeometry p, .noRight), (s.frozen, .frozen), (decide (s.hold ≠ .free), .wrongState),
        (decide (e.kind = .omitted), .wrongState), (!s.entryHasWork e, .wrongState), (s.motion.state.isGranted, .moving),
        (!s.inHoldWindow e, .outOfWindow), (e.target.isNone, .noTarget)]
      (((s.unqueues p).standHold e (e.target.getD ⟨0, 0, 0⟩)).answers p r .accepted
        (s.holdTakeData e (e.target.getD ⟨0, 0, 0⟩)))) := by
  show Host.Outcome.next (s.takeRequest p 0x14 (State.judgeHoldTake p)) = _
  rw [State.takeRequest_of_hands hands, State.judgeHoldTake, bytes]
  simp only [State.holdTake, State.respond_judge, State.unqueues_conditions, State.unqueues_keeps, State.unqueues_entry?,
    State.unqueues_ofPort, held, Option.isNone_some, Option.any_some]
  refine congrArg Host.Outcome.next ((State.afterJudging_congr_failing (fun c => ?_) s p r _).trans
    (State.afterJudging_congr_accepted s p r fun passes => ?_))
  · simp only [List.mem_cons, Prod.mk.injEq, Bool.true_eq_false, false_and, false_or]
    rfl
  · simp only [List.forall_mem_cons] at passes
    obtain ⟨-, -, -, -, -, -, -, targeted, -⟩ := passes
    cases target : e.target with
    | none => exact absurd (target ▸ targeted) (by simp)
    | some t => exact State.respond_answer p r _ _ _

theorem exec_holdTake_of_none {s : State} {p : Port} {r : Request} (hands : s.hands p r 0x14) {hi lo : Byte}
    (bytes : r.params = [hi, lo]) (absent : s.entry? (Operands.word hi lo) = none) :
    exec (.holdTake p) s = .next (s.afterJudging p r
      [(s.notGeometry p, .noRight), (s.frozen, .frozen), (true, .unknownEntry)] s) := by
  show Host.Outcome.next (s.takeRequest p 0x14 (State.judgeHoldTake p)) = _
  rw [State.takeRequest_of_hands hands, State.judgeHoldTake, bytes]
  simp only [State.holdTake, State.respond_judge, State.unqueues_conditions, State.unqueues_keeps, State.unqueues_entry?,
    State.unqueues_ofPort, absent]
  exact congrArg Host.Outcome.next (State.afterJudging_outranked (c := .unknownEntry)
    (checks := [(s.notGeometry p, .noRight), (s.frozen, .frozen), (true, .unknownEntry)])
    (higher := [_, _, _, _, _, _]) (by simp) (by simp [Result.code]) s p r _ s)

/-- Settles O33. -/
theorem holdTakeStandsTheHold : Obligations.HoldTakeStandsTheHold := by
  intro p r s hi lo hands bytes q
  refine ⟨fun absent => exec_holdTake_of_none hands bytes absent, fun e held => ?_⟩
  intro t deep raised raise entries
  have seq : e.seq = q := State.seq_of_entry? held
  have deep_eq : s.isDeepLift t = deep := s.isDeepLift_eq t
  have raised_eq : raised = fun r => deep && r.isRaised := by
    funext r
    rw [LaneRecord.isRaised_eq]
  have raise_eq : raise = LaneRecord.raisedBy deep := by
    funext r
    show (if raised r then _ else _) = _
    rw [raised_eq]
    rfl
  have data : s.holdTakeData e t = [hi, lo] ++ t.carried ++ [if deep then 1 else 0]
      ++ (Lane.all.map fun x => BitVec.ofNat 8 (raise (e.lanes.get x)).need)
      ++ [BitVec.ofNat 8 (Operands.laneSet (e.lanes.map raised))] := by
    rw [State.holdTakeData_eq, deep_eq, seq, raise_eq, raised_eq]
    exact congrArg (fun l => l ++ _ ++ _ ++ _ ++ _) (Operands.carry2_word hi lo)
  have stands : (s.unqueues p).standHold e t =
      { s.unqueues p with list := { s.list with entries := entries }, hold := .lifting q t 0 } := by
    rw [State.standHold_eq, show (s.unqueues p).isDeepLift t = deep from deep_eq, seq, ← raise_eq]
    rfl
  rw [exec_holdTake_of_some hands bytes held, State.not_entryHasWork, State.not_inHoldWindow]
  rw [show e.target.getD ⟨0, 0, 0⟩ = t from rfl, data, stands]
  rfl

/-! ### HOLD DROP (R102, R103) -/

theorem exec_holdDrop {s : State} {p : Port} {r : Request} (hands : s.hands p r 0x16) {b : Byte}
    (byte : r.params = [b]) : exec (.holdDrop p) s = .next (s.afterJudging p r
      [(decide (1 < b.toNat), .malformed), (s.notGeometry p, .noRight), (s.hold.droppable?.isNone, .wrongState),
        (Lane.all.any (s.tinesDownOn s.hold.named?), .lanesDown),
        (decide (b = 0) && Lane.all.any (s.claimOn s.hold.named?), .claimsOpen)]
      (State.respond p r ((s.unqueues p).acceptHoldDrop (decide (b = 1))))) := by
  show Host.Outcome.next (s.takeRequest p 0x16 (State.judgeHoldDrop p)) = _
  rw [State.takeRequest_of_hands hands, State.judgeHoldDrop, byte]
  have judged (force : Bool) : (State.respond p r ((s.unqueues p).holdDrop p force)).settle = s.afterJudging p r
      [(s.notGeometry p, .noRight), (s.hold.droppable?.isNone, .wrongState),
        (Lane.all.any (s.tinesDownOn s.hold.named?), .lanesDown),
        (!force && Lane.all.any (s.claimOn s.hold.named?), .claimsOpen)]
      (State.respond p r ((s.unqueues p).acceptHoldDrop force)) := by
    simp only [State.holdDrop, State.respond_judge, State.unqueues_ofPort, State.unqueues_keeps]
    rfl
  rcases show b = 0 ∨ b = 1 ∨ 1 < b.toNat by bv_omega with rfl | rfl | beyond
  · exact congrArg Host.Outcome.next ((judged false).trans (State.afterJudging_passed _ _ s p r _).symm)
  · exact congrArg Host.Outcome.next ((judged true).trans (State.afterJudging_passed _ _ s p r _).symm)
  · have not_zero : b ≠ 0 := by rintro rfl; simp at beyond
    have not_one : b ≠ 1 := by rintro rfl; simp at beyond
    dsimp only
    rw [if_neg not_zero, if_neg not_one, State.respond_refuse, decide_eq_true beyond]
    exact congrArg Host.Outcome.next (State.afterJudging_first (by simp [Result.code]) s p r _).symm

theorem HoldState.droppable?_eq_none (h : HoldState) : h.droppable? = none ↔ h = .free ∨ ∃ q t, h = .opening q t := by
  constructor
  · intro none_stands
    cases h with
    | free => exact .inl rfl
    | opening q t => exact .inr ⟨q, t, rfl⟩
    | lifting q t ms => simp [HoldState.droppable?] at none_stands
    | held q t ms => simp [HoldState.droppable?] at none_stands
  · rintro (rfl | ⟨q, t, rfl⟩) <;> rfl

/-- One lane's part in revocations: the claim on this seq, if one is given, is revoked (R89). -/
def State.revokes (x : Lane) (named : Option SeqNo) (s : State) : State :=
  match named with
  | some q => s.revoke x q
  | none => s

theorem State.revokes_keeps {x y : Lane} (other : y ≠ x) (named : Option SeqNo) (s : State) :
    (s.revokes x named).lane y = s.lane y ∧ (s.revokes x named).store = s.store := by
  cases named with
  | none => exact ⟨rfl, rfl⟩
  | some q => exact ⟨(s.revoke_lane x y q).trans (if_neg other), by simp [State.revokes]⟩

/-- A revocation leaves the other lanes and the settings, so which claims are revoked is settled before the first (R103,
R130). -/
theorem State.revokeEach_eq {which : State → Lane → Option SeqNo} (s : State)
    (stable : ∀ (t : State) (x : Lane), t.lane x = s.lane x → t.store = s.store → which t x = which s x) :
    State.revokeEach which Lane.all s =
      (((s.revokes .a (which s .a)).revokes .b (which s .b)).revokes .c (which s .c)).revokes .d (which s .d) := by
  have one (x : Lane) (xs : List Lane) (t : State) (same : t.lane x = s.lane x ∧ t.store = s.store) :
      State.revokeEach which (x :: xs) t = State.revokeEach which xs (t.revokes x (which s x)) := by
    rw [State.revokeEach, stable t x same.1 same.2]
    rfl
  have next {x y : Lane} (other : y ≠ x) {named : Option SeqNo} {t : State} (same : t.lane y = s.lane y ∧ t.store = s.store) :
      (t.revokes x named).lane y = s.lane y ∧ (t.revokes x named).store = s.store := by
    obtain ⟨lane, store⟩ := State.revokes_keeps other named t
    exact ⟨lane.trans same.1, store.trans same.2⟩
  rw [Lane.all, one .a _ s ⟨rfl, rfl⟩, one .b _ _ (next (by simp) ⟨rfl, rfl⟩),
    one .c _ _ (next (by simp) (next (by simp) ⟨rfl, rfl⟩)),
    one .d _ _ (next (by simp) (next (by simp) (next (by simp) ⟨rfl, rfl⟩))), State.revokeEach]

/-- Settles O34. -/
theorem holdDropOpens : Obligations.HoldDropOpens := by
  intro p r s b hands byte on down revoked
  have on_eq (q : SeqNo) (x : Lane) : s.claimOn (some q) x = on q x := by
    rw [Bool.eq_iff_iff, State.claimOn_iff, decide_eq_true_iff]
  have down_eq (q : SeqNo) (x : Lane) : s.tinesDownOn (some q) x = down q x := by
    have same (c : SeqNo) : decide (some q = some c) = decide (c = q) := by
      rw [decide_eq_decide, Option.some.injEq]
      exact eq_comm
    have written : down q x = match (s.lane x).state with
      | .down c _ => decide (c = q)
      | .orphaned c => decide (c = q) && (s.lane x).tdnActive
      | .fault => s.isFitted x && (s.lane x).tdnActive
      | _ => false := rfl
    rw [State.tinesDownOn, written]
    cases (s.lane x).state with
    | down c ms => exact same c
    | orphaned c => exact congrArg (· && (s.lane x).tdnActive) (same c)
    | _ => rfl
  have revoked_eq (q : SeqNo) (x : Lane) (t : State) :
      revoked q x t = t.revokes x (if b = 1 ∧ on q x then some q else none) := by
    simp only [revoked]
    split <;> rfl
  rw [exec_holdDrop hands byte]
  refine ⟨fun beyond => ?_, fun fits sender => ?_, fun fits sender none_stands => ?_, fun q t fits sender stands => ?_⟩
  · rw [decide_eq_true beyond, State.afterJudging_first (by simp [Result.code])]
  · rw [decide_eq_false (Nat.not_lt.2 fits), State.afterJudging_passed, State.notGeometry, decide_eq_true sender,
      State.afterJudging_first (by simp [Result.code])]
  · rw [decide_eq_false (Nat.not_lt.2 fits), State.afterJudging_passed, State.notGeometry,
      decide_eq_false (not_not_intro sender), State.afterJudging_passed, (HoldState.droppable?_eq_none _).2 none_stands]
    exact congrArg Host.Outcome.next (State.afterJudging_first (by simp [Result.code]) s p r _)
  · intro after
    obtain ⟨named, droppable⟩ : s.hold.named? = some q ∧ s.hold.droppable? = some (q, t) := by
      rcases stands with ⟨ms, lifting⟩ | ⟨ms, held⟩
      · rw [lifting]
        exact ⟨rfl, rfl⟩
      · rw [held]
        exact ⟨rfl, rfl⟩
    have accepted : State.respond p r ((s.unqueues p).acceptHoldDrop (decide (b = 1))) =
        ({ after with hold := .opening q t } : State).answers p r .accepted (Operands.carry2 q
          ++ [BitVec.ofNat 8 (Operands.laneSet (.ofFn fun x => decide (b = 1) && on q x))]) := by
      have claims (x : Lane) : (s.unqueues p).claimOn (some q) x = on q x := on_eq q x
      have drops : (s.unqueues p).dropHold q t (decide (b = 1)) = { after with hold := .opening q t } := by
        have stable (u : State) (x : Lane) (lane : u.lane x = s.lane x) (_ : u.store = s.store) :
            State.revokedOn q u x = State.revokedOn q s x := by
          simp only [State.revokedOn, State.claimOn, lane]
          rfl
        have each (x : Lane) : State.revokedOn q (s.unqueues p) x = if on q x then some q else none := by
          rw [State.revokedOn, claims]
        have after_eq : after = if decide (b = 1) then State.revokeEach (State.revokedOn q) Lane.all (s.unqueues p)
            else s.unqueues p := by
          rw [State.revokeEach_eq (s.unqueues p) stable]
          simp only [after, revoked_eq, each]
          by_cases force : b = 1
          · simp only [force, true_and, decide_true, if_true]
          · simp only [force, false_and, decide_false, if_false]
            rfl
        rw [State.dropHold, after_eq]
      rw [State.acceptHoldDrop, show (s.unqueues p).hold.droppable? = some (q, t) from droppable]
      simp only [State.respond_answer, drops, claims, Operands.carry1]
    rw [accepted, decide_eq_false (Nat.not_lt.2 fits), State.afterJudging_passed, State.notGeometry,
      decide_eq_false (not_not_intro sender), State.afterJudging_passed, droppable, Option.isNone_some,
      State.afterJudging_passed, named, funext (on_eq q), funext (down_eq q)]

end Sys2Proof.Machine
end

section
/-! PROOFS. Freeze causes (R117, R125 to R127) and THAW (R129, R130). -/

namespace Sys2Proof.Machine

/-- Settles O38. -/
theorem causesFreezeOrAreCounted : Obligations.CausesFreezeOrAreCounted := by
  refine ⟨fun s cause source seq => ⟨fun run => ?_, fun frozen => ?_⟩,
    fun s released => ⟨fun inactive => ?_, fun active => ?_, rfl⟩⟩
  · rw [State.handCause, run]
    rfl
  · rw [State.handCause, frozen]
  · have changes : ¬ s.frzinActive = true := by simp [State.frzinActive, inactive]
    refine (if_neg changes).trans (congrArg Host.Outcome.next (if_neg ?_))
    exact Bool.not_eq_true _ ▸ released
  · have same : s.frzinActive = true := by simp [State.frzinActive, active]
    exact if_pos same

/-! ### THAW (R129, R130) -/

theorem State.unqueues_thawBlocked (s : State) (p : Port) : (s.unqueues p).thawBlocked = s.thawBlocked := by
  simp only [State.thawBlocked, State.unqueues_conditions, State.unqueues_anyFitted, State.unqueues_ofPort,
    State.unqueues_ofLane]

theorem exec_thaw {s : State} {p : Port} {r : Request} (hands : s.hands p r 0x32) (none_given : r.params = []) :
    exec (.thaw p) s = .next (s.afterJudging p r
      [(!(s.portRole p).setup, .noRight), (!s.keyOpen p, .protectedRequest), (!s.frozen, .wrongState),
        (s.thawBlocked, .conditions)]
      ((s.unqueues p).thaw.answers p r .accepted
        [BitVec.ofNat 8 (Operands.laneSet (.ofFn fun x => (s.revokedByThaw x).isSome)), BitVec.ofNat 8 s.freeze.cause.code,
          BitVec.ofNat 8 s.freeze.further])) := by
  show Host.Outcome.next (s.takeRequest p 0x32 (State.judgeThaw p)) = _
  rw [State.takeRequest_of_hands hands, State.judgeThaw, none_given]
  simp only [State.respond_judge, State.respond_answer, State.unqueues_thawBlocked, State.unqueues_ofPort,
    State.unqueues_conditions, State.unqueues_keeps, Operands.carry1, List.cons_append, List.nil_append]
  rfl

/-- The revocations, then RUN, then THAWED (R130). -/
theorem State.thaw_eq (s : State) : s.thaw =
    ({ (((s.revokes .a (s.revokedByThaw .a)).revokes .b (s.revokedByThaw .b)).revokes .c (s.revokedByThaw .c)).revokes .d
        (s.revokedByThaw .d) with freeze := { s.freeze with state := .run } } : State).raise .thawed := by
  have stable (t : State) (x : Lane) (lane : t.lane x = s.lane x) (store : t.store = s.store) :
      t.revokedByThaw x = s.revokedByThaw x := by
    simp only [State.revokedByThaw, State.isFitted, State.live, lane, store]
    rfl
  rw [State.thaw]
  dsimp only
  rw [(State.revokeEach_keeps State.revokedByThaw Lane.all s).2.2.2.2.1, State.revokeEach_eq s stable]

/-- Settles O40. -/
theorem thawRevokesAndRuns : Obligations.ThawRevokesAndRuns := by
  intro p r s hands
  refine ⟨fun given => ?_, fun none_given => ?_⟩
  · have malformed : State.judgeThaw p (s.unqueues p) r = Reply.refuse (s.unqueues p) .malformed := by
      unfold State.judgeThaw
      split
      next empty => exact absurd empty given
      next => rfl
    show Host.Outcome.next (s.takeRequest p 0x32 (State.judgeThaw p)) = _
    rw [State.takeRequest_of_hands hands, malformed, State.respond_refuse]
  · intro needed claim revoked after
    have claim_eq (x : Lane) : s.revokedByThaw x = claim x := by
      simp only [State.revokedByThaw, claim]
      cases (s.lane x).state <;> rfl
    have revoked_eq (x : Lane) (t : State) : revoked x t = t.revokes x (claim x) := by
      simp only [revoked]
      cases claim x <;> rfl
    have thawed : (s.unqueues p).thaw =
        ({ after with freeze := { s.freeze with state := .run } } : State).raise .thawed := by
      have claims (x : Lane) : (s.unqueues p).revokedByThaw x = claim x := claim_eq x
      rw [State.thaw_eq]
      simp only [claims, ← revoked_eq]
      rfl
    have needed_eq (i : Port) : (s.roleOf i).neededByThaw = needed (s.roleOf i) := by
      simp only [needed]
      cases s.roleOf i <;> rfl
    rw [exec_thaw hands none_given, thawed, funext claim_eq, State.not_keyOpen]
    refine congrArg Host.Outcome.next (State.afterJudging_congr_failing (fun c => ?_) s p r _)
    have run : s.frozen = false ↔ s.freeze.state = .run := by
      cases h : s.freeze.state <;> simp [State.frozen, h]
    have blocked : s.thawBlocked = true ↔ s.pins.frzin = .low ∨
        (Lane.all.any fun x => s.isFitted x && (s.lane x).tdnActive) = true ∨
        (Lane.all.any fun x => (s.lane x).state.isDown) = true ∨
        (Port.all.any fun i => needed (s.roleOf i) && !s.portPresent i) = true := by
      simp only [State.thawBlocked, Bool.or_eq_true, needed_eq, State.frzinActive, decide_eq_true_eq, or_assoc]
      rfl
    simp only [List.mem_cons, Prod.mk.injEq, List.not_mem_nil, or_false, @eq_comm _ true, Bool.not_eq_true', run, blocked,
      decide_eq_true_eq, or_and_right]

end Sys2Proof.Machine
end

section
/-! PROOFS. What the Port Interface refuses before any block is asked (R139, R140, R142, R144). -/

namespace Sys2Proof.Machine

/-! ### Requests of the wrong length (R144) -/

theorem Operands.rolesOf?_of_length {ps : List Byte} (other : ps.length ≠ 12) : Operands.rolesOf? ps = none := by
  unfold Operands.rolesOf?
  split
  next => exact absurd rfl other
  next => rfl

/-- What follows a request once it has been taken: after AXIS PRESET a candidate that waited is offered (R13). -/
def Flags.after (c : Instr) (s : State) : State :=
  match c with
  | .axisPreset _ => s.offerMade
  | _ => s

/-- The command of a request's code judges requests of that code, and refuses those of another length than the code's. -/
theorem exec_of_command?_judged {p : Port} {code : Byte} {c : Instr} {n : Nat} (known : Request.command? p code = some c)
    (length : Request.length? code = some n) (s : State) :
    ∃ judge, exec c s = .next (Flags.after c (s.takeRequest p code judge)) ∧
      ∀ (u : State) (r : Request), r.params.length ≠ n → judge u r = Reply.refuse u .malformed := by
  have byte : code = BitVec.ofNat 8 code.toNat := by simp
  unfold Request.command? at known
  unfold Request.length? at length
  generalize code.toNat = k at known length byte
  subst byte
  split at known <;> cases known
  all_goals
    cases length
    refine ⟨_, rfl, fun u r other => ?_⟩
    simp only [State.judgePresent, State.judgeReadState, State.judgeReadEvents, State.judgeEventMask,
      State.judgeStatusInterval, State.judgeReadEntry, State.judgeReadRegister, State.judgeReadPassages,
      State.judgeReadCounters, State.judgeReadSetting, State.judgeReadFault, State.judgeFreeze, State.judgeKey,
      State.judgeAnnotate, State.judgePlace, State.judgeStrike, State.judgeTakePassages, State.judgeHoldTake,
      State.judgeHoldSet, State.judgeHoldDrop, State.judgeHoldClear, State.judgeClaim, State.judgeFinish,
      State.judgeWaive, State.judgeAdopt, State.judgeClearLane, State.judgeMove, State.judgeStop, State.judgeSet,
      State.judgeSetRoles, State.judgeThaw, State.judgeSave, State.judgeReload, State.judgeRestart, State.judgeFlush,
      State.judgeAxisPreset]
    split <;> simp_all [Operands.rolesOf?_of_length]

theorem State.takeRequest_of_malformed {s : State} {p : Port} {r : Request} {code : Byte} (hands : s.hands p r code)
    {judge : State → Request → Reply} (refused : ∀ u, judge u r = Reply.refuse u .malformed) :
    s.takeRequest p code judge = (s.refuses p r .malformed).settle := by
  rw [State.takeRequest_of_hands hands, refused, State.respond_refuse]

theorem Flags.after_of_none {c : Instr} {p : Port} (sender : Flags.requestPort? c = some p) {s : State}
    (quiet : c = .axisPreset p → s.detector.made = none) : Flags.after c s = s := by
  unfold Flags.after
  split
  next q =>
    obtain rfl : q = p := Option.some.inj sender
    exact State.offerMade_of_none (quiet rfl)
  next => rfl

theorem exec_of_wrong_length {s : State} {c : Instr} {p : Port} {r : Request} {n : Nat} (hands : s.hands p r r.code)
    (known : Request.command? p r.code = some c) (length : Request.length? r.code = some n)
    (other : r.params.length ≠ n) (quiet : c = .axisPreset p → s.detector.made = none) :
    exec c s = .next (s.refuses p r .malformed).settle := by
  obtain ⟨judge, meaning, refused⟩ := exec_of_command?_judged known length s
  rw [meaning, State.takeRequest_of_malformed hands fun u => refused u r other,
    Flags.after_of_none (Request.command?_port known)]
  intro preset
  simpa using quiet preset

/-! ### Requests of an unknown code (R139) -/

theorem State.front?_of_hands {s : State} {p : Port} {r : Request} (hands : s.hands p r r.code)
    {isCode : Byte → Bool} (named : isCode r.code = true) : s.front? p isCode = some r := by
  obtain ⟨may, head, -⟩ := hands
  unfold State.front?
  rw [may]
  cases queue : (s.ports.get p).queue <;> simp_all

theorem exec_unknownCode {s : State} {p : Port} {r : Request} (hands : s.hands p r r.code)
    (unknown : Request.length? r.code = none) :
    exec (.unknownCode p) s = .next (s.refuses p r .malformed).settle := by
  show execUnknownCode p s = _
  rw [execUnknownCode, State.front?_of_hands hands ((Request.isUnknown_iff r.code).2 unknown)]
  exact congrArg (fun t : State => Host.Outcome.next t.settle) (State.respond_refuse p r s .malformed)

/-! ### Bytes outside their set (R144) -/

theorem Kind.ofCode?_eq_none {b : Byte} (beyond : 2 < b.toNat) : Kind.ofCode? b = none := by
  refine List.find?_eq_none.2 fun k _ => ?_
  rw [decide_eq_true_eq]
  rintro rfl
  cases k <;> simp [Kind.code] at beyond

theorem LiftSelector.ofBytes?_eq_none {b : Byte} (beyond : 2 < b.toNat) (left right hi lo : Byte) :
    LiftSelector.ofBytes? b left right hi lo = none := by
  have ne : ∀ k : Byte, k.toNat ≤ 2 → b ≠ k := by
    rintro k small rfl
    omega
  rw [LiftSelector.ofBytes?, if_neg (ne 0 (by decide)), if_neg (ne 1 (by decide)), if_neg (ne 2 (by decide))]

theorem PortRole.ofCodes?_eq_none {role rights : Nat} (beyond : 7 < role ∨ 7 < rights) :
    PortRole.ofCodes? role rights = none := by
  unfold PortRole.ofCodes?
  split
  next small =>
    rw [Option.map_eq_none_iff, Role.ofCode?, List.find?_eq_none]
    intro x _
    rw [decide_eq_true_eq]
    have : x.code ≤ 7 := by
      cases x with
      | unit x => cases x <;> decide
      | _ => decide
    omega
  next => rfl

theorem State.judgeAnnotate_of_outside (p : Port) (u : State) {r : Request}
    (outside : 2 < (r.params.getD 2 0).toNat ∨ 2 < (r.params.getD 11 0).toNat) :
    u.judgeAnnotate p r = Reply.refuse u .malformed := by
  unfold State.judgeAnnotate
  split
  next bytes =>
    rw [bytes] at outside
    rcases outside with kind | selector
    · simp only [List.getD_cons_succ, List.getD_cons_zero] at kind
      rw [Kind.ofCode?_eq_none kind]
    · simp only [List.getD_cons_succ, List.getD_cons_zero] at selector
      rw [LiftSelector.ofBytes?_eq_none selector]
      split <;> simp_all
  next => rfl

theorem Operands.rolesOf?_of_outside {ps : List Byte} (i : Fin 6)
    (outside : 7 < (ps.getD (2 * i) 0).toNat ∨ 7 < (ps.getD (2 * i + 1) 0).toNat) : Operands.rolesOf? ps = none := by
  unfold Operands.rolesOf?
  split
  next =>
    have missing := PortRole.ofCodes?_eq_none outside
    split
    next role0 role1 role2 role3 role4 role5 =>
      match i, missing with
      | 0, missing => exact nomatch role0.symm.trans missing
      | 1, missing => exact nomatch role1.symm.trans missing
      | 2, missing => exact nomatch role2.symm.trans missing
      | 3, missing => exact nomatch role3.symm.trans missing
      | 4, missing => exact nomatch role4.symm.trans missing
      | 5, missing => exact nomatch role5.symm.trans missing
    next => rfl
  next => rfl

theorem State.judgeClearLane_of_outside (p : Port) (u : State) {r : Request}
    (outside : 3 < (r.params.getD 0 0).toNat) : u.judgeClearLane p r = Reply.refuse u .malformed := by
  unfold State.judgeClearLane
  split
  next bytes =>
    rw [bytes, List.getD_cons_zero] at outside
    rw [Lane.ofCode?_eq_none outside]
  next => rfl

/-! ### Senders without a UNIT role (R139) -/

theorem State.judgeOnLane_of_none {s : State} {p : Port} (none : ∀ x, s.roleOf p ≠ .unit x) (onLane : Lane → Reply) :
    (s.unqueues p).judgeOnLane p onLane = Reply.refuse (s.unqueues p) .noRight := by
  have laneless : (s.unqueues p).laneOf? p = Option.none := by
    unfold State.laneOf?
    split
    next x unit => exact absurd unit (none x)
    next => rfl
  rw [State.judgeOnLane, laneless]

/-- Settles O41: what is refused before any block is asked. -/
theorem portInterfaceRefuses : Obligations.PortInterfaceRefuses := by
  refine ⟨fun checks => ⟨Operands.lowestRefusal_eq_none_iff checks, fun r => Operands.lowestRefusal_least⟩,
    ⟨fun c p r s n hands known length other quiet => exec_of_wrong_length hands known length other quiet,
      fun p r s hands unknown => exec_unknownCode hands unknown⟩,
    fun p r s => ⟨fun hands outside => ?_, fun i hands outside => ?_, fun hands outside => ?_⟩,
    fun p r s laneless => ⟨fun hi lo mask hands bytes => ?_, fun hands bytes => ?_, fun hi lo hands bytes => ?_,
      fun hands bytes => ?_⟩⟩
  · exact congrArg Host.Outcome.next
      (State.takeRequest_of_malformed hands fun u => State.judgeAnnotate_of_outside p u outside)
  · refine congrArg Host.Outcome.next (State.takeRequest_of_malformed hands fun u => ?_)
    rw [State.judgeSetRoles, Operands.rolesOf?_of_outside i outside]
  · exact congrArg Host.Outcome.next
      (State.takeRequest_of_malformed hands fun u => State.judgeClearLane_of_outside p u outside)
  · show Host.Outcome.next (s.takeRequest p 0x20 (State.judgeClaim p)) = _
    rw [State.takeRequest_of_hands hands, State.judgeClaim, bytes]
    dsimp only
    by_cases inside : mask.toNat < 16
    · rw [if_pos inside, if_pos inside, State.judgeOnLane_of_none laneless, State.respond_refuse]
    · rw [if_neg inside, if_neg inside, State.respond_refuse]
  · show Host.Outcome.next (s.takeRequest p 0x21 (State.judgeFinish p)) = _
    rw [State.takeRequest_of_hands hands, State.judgeFinish, bytes]
    dsimp only
    rw [State.judgeOnLane_of_none laneless, State.respond_refuse]
  · show Host.Outcome.next (s.takeRequest p 0x22 (State.judgeWaive p)) = _
    rw [State.takeRequest_of_hands hands, State.judgeWaive, bytes]
    dsimp only
    rw [State.judgeOnLane_of_none laneless, State.respond_refuse]
  · show Host.Outcome.next (s.takeRequest p 0x23 (State.judgeAdopt p)) = _
    rw [State.takeRequest_of_hands hands, State.judgeAdopt, bytes]
    dsimp only
    rw [State.judgeOnLane_of_none laneless, State.respond_refuse]

end Sys2Proof.Machine
end

section
/-! PROOFS. The requests that write the settings: SET and SET ROLES (R140, R155). -/

namespace Sys2Proof.Machine

/-! ### SET (R155) -/

/-- The value that SET takes can be stored and read back, also under settings that were not legal. -/
theorem Settings.get_put_valueTaken (s : Settings) (k : Setting) (v : Int) :
    (s.put k (s.valueTaken k v)).get k = s.valueTaken k v := by
  cases enumerated : k.domain with
  | codes set =>
    have taken : s.valueTaken k v = if v ∈ set then v else s.get k := by
      rw [Settings.valueTaken_eq v (by rintro rfl; cases enumerated) (by rintro rfl; cases enumerated), enumerated,
        Domain.legalise]
    by_cases known : v ∈ set
    · rw [taken, if_pos known]
      refine Settings.get_put_same ?_
      rw [enumerated]
      exact known
    · rw [taken, if_neg known, Settings.put_get]
  | _ =>
    cases k
    case defaultNeed x => exact (PerLane.get_set s.defaultNeed x x _).trans (if_pos rfl)
    case laneOffset x => exact (PerLane.get_set s.laneOffset x x _).trans (if_pos rfl)
    all_goals first | rfl | cases enumerated

theorem Settings.get_write (s : Settings) (k : Setting) (v : Int) : (s.write k v).get k = s.valueTaken k v := by
  rw [Settings.write, Settings.get_boundOther (by cases k <;> simp [Setting.bounded?]), Settings.get_put_valueTaken]

/-- The bound of R30 changed the other setting of the pair. -/
theorem Settings.write_ne_put_iff (s : Settings) (k : Setting) (v : Int) :
    s.write k v ≠ s.put k (s.valueTaken k v) ↔
      (k = .minimumSpacing ∧ (s.write k v).captureWindow ≠ s.captureWindow) ∨
        (k = .widthMin ∧ (s.write k v).widthMax ≠ s.widthMax) := by
  by_cases spacing : k = .minimumSpacing
  · subst spacing
    refine ⟨fun changed => .inl ⟨rfl, fun same => changed ?_⟩, ?_⟩
    · show { s.put .minimumSpacing _ with captureWindow := (s.write .minimumSpacing v).captureWindow } = _
      rw [same]
      rfl
    · rintro (⟨-, changed⟩ | ⟨other, -⟩) same
      · exact changed (by rw [same]; rfl)
      · cases other
  · by_cases width : k = .widthMin
    · subst width
      refine ⟨fun changed => .inr ⟨rfl, fun same => changed ?_⟩, ?_⟩
      · show { s.put .widthMin _ with widthMax := (s.write .widthMin v).widthMax } = _
        rw [same]
        rfl
      · rintro (⟨other, -⟩ | ⟨-, changed⟩) same
        · cases other
        · exact changed (by rw [same]; rfl)
    · have unbounded : s.write k v = s.put k (s.valueTaken k v) := by
        cases k <;> first | rfl | exact absurd rfl spacing | exact absurd rfl width
      simp only [unbounded, ne_eq, not_true_eq_false, spacing, width, false_and, or_self]

theorem Settings.writeAdjusts_iff (s : Settings) (k : Setting) (v : Int) :
    s.writeAdjusts k v = true ↔ (s.write k v).get k ≠ v ∨
      (k = .minimumSpacing ∧ (s.write k v).captureWindow ≠ s.captureWindow) ∨
        (k = .widthMin ∧ (s.write k v).widthMax ≠ s.widthMax) := by
  rw [Settings.writeAdjusts, Bool.or_eq_true, decide_eq_true_iff, decide_eq_true_iff, Settings.write_ne_put_iff,
    Settings.get_write]

theorem exec_set_of_unknown {s : State} {p : Port} {r : Request} {n b3 b2 b1 b0 : Byte} (hands : s.hands p r 0x30)
    (bytes : r.params = [n, b3, b2, b1, b0]) (unknown : n.toNat = 0 ∨ 36 < n.toNat) :
    exec (.set p) s = .next (s.refuses p r .malformed).settle := by
  refine congrArg Host.Outcome.next (State.takeRequest_of_malformed hands fun u => ?_)
  rw [State.judgeSet, bytes]
  dsimp only
  rw [Setting.ofNumber?_eq_none (by omega)]

theorem exec_set {s : State} {p : Port} {r : Request} {n b3 b2 b1 b0 : Byte} (hands : s.hands p r 0x30)
    (bytes : r.params = [n, b3, b2, b1, b0]) {k : Setting} (named : k.number = n.toNat) {v : Int}
    (value : Operands.signed4 b3 b2 b1 b0 = v) :
    exec (.set p) s = .next (s.afterJudging p r
      [(!(s.portRole p).setup, .noRight), (k.isProtected && decide ((s.ports.get p).keyCount = 0), .protectedRequest),
       (k.isProtected && !s.quiescent, .notQuiescent)]
      (((s.unqueues p).writeSettings (s.live.write k v)).answers p r (Operands.taken (s.live.writeAdjusts k v))
        (n :: Operands.carryAxis ((s.live.write k v).get k)))) := by
  show Host.Outcome.next (s.takeRequest p 0x30 (State.judgeSet p)) = _
  rw [State.takeRequest_of_hands hands, State.judgeSet, bytes]
  dsimp only
  rw [← named, Setting.ofNumber?_number]
  dsimp only
  rw [State.setSetting, State.respond_judge, State.setChecks, State.not_keyOpen, value]
  simp only [State.respond_answer, State.unqueues_conditions, State.unqueues_ofPort, State.unqueues_key]

/-- Settles O42. -/
theorem setWritesTheValueTaken : Obligations.SetWritesTheValueTaken := by
  intro p r s n b3 b2 b1 b0 hands bytes v
  refine ⟨exec_set_of_unknown hands bytes, fun k named => ?_⟩
  exact ⟨s.live.writeAdjusts k v, s.live.writeAdjusts_iff k v, exec_set hands bytes named rfl⟩

/-! ### SET ROLES (R140) -/

theorem Operands.rolesOf?_codes (roles : PerPort PortRole) :
    Operands.rolesOf? (Port.all.flatMap fun i =>
      [BitVec.ofNat 8 (roles.get i).role.code, BitVec.ofNat 8 (roles.get i).rightsCode]) = some roles := by
  have read (v : PortRole) :
      PortRole.ofCodes? (BitVec.ofNat 8 v.role.code).toNat (BitVec.ofNat 8 v.rightsCode).toNat = some v := by
    have small : v.role.code < 256 := by
      cases v.role with
      | unit x => cases x <;> decide
      | _ => decide
    have := v.rightsCode_le
    rw [BitVec.toNat_ofNat, BitVec.toNat_ofNat, Nat.mod_eq_of_lt small, Nat.mod_eq_of_lt (by omega),
      PortRole.ofCodes?_codes]
  simp only [Port.all, List.flatMap_cons, List.flatMap_nil, List.cons_append, List.nil_append, Operands.rolesOf?, read]
  rfl

/-- A symmetric relation that holds along a list holds between any two of its members. -/
theorem Port.forall_of_pairwise {R : Port → Port → Prop} (symm : ∀ {i j}, R i j → R j i) {ps : List Port}
    (along : ps.Pairwise R) : ∀ i ∈ ps, ∀ j ∈ ps, i ≠ j → R i j := by
  induction ps with
  | nil => exact fun i mem => nomatch mem
  | cons p rest ih =>
    obtain ⟨first, later⟩ := List.pairwise_cons.1 along
    intro i mem j mem' other
    rcases List.mem_cons.1 mem with rfl | after <;> rcases List.mem_cons.1 mem' with rfl | after'
    · exact absurd rfl other
    · exact first j after'
    · exact symm (first i after)
    · exact ih later i after j after' other

/-- Two ports hold one role that only one port may hold (R138). -/
def Settings.holdsTwice (roles : PerPort PortRole) (i j : Port) : Prop :=
  i ≠ j ∧ (roles.get i).role = (roles.get j).role ∧ (roles.get i).role ≠ .unused ∧ (roles.get i).role ≠ .observer

theorem Settings.rolesDistinct_iff (roles : PerPort PortRole) :
    Settings.rolesDistinct roles = true ↔ ¬ ∃ i j, Settings.holdsTwice roles i j := by
  have ports : roles.toList = Port.all.map roles.get := rfl
  have mem (i : Port) : i ∈ Port.all := by cases i <;> decide
  rw [Settings.rolesDistinct, decide_eq_true_iff, ports, List.map_map, List.Nodup, List.pairwise_filter,
    List.pairwise_map]
  constructor
  · rintro distinct ⟨i, j, other, same, used, sees⟩
    have apart := Port.forall_of_pairwise (fun ne py px eq => ne px py eq.symm) distinct i (mem i) j (mem j) other
    exact apart (by simp [used, sees]) (by simp [← same, used, sees]) same
  · intro none
    have once : Port.all.Nodup := by decide
    refine once.imp fun {i j} other used _ same => none ⟨i, j, other, same, ?_⟩
    simpa using used

theorem Settings.rolesConflict_iff (roles : PerPort PortRole) :
    Settings.rolesConflict roles = true ↔
      (∃ i j, Settings.holdsTwice roles i j) ∨ ∀ i, (roles.get i).setup = false := by
  have ports : roles.toList = Port.all.map roles.get := rfl
  have mem (i : Port) : i ∈ Port.all := by cases i <;> decide
  rw [Settings.rolesConflict, Bool.or_eq_true, Bool.not_eq_true', ← Bool.not_eq_true, Settings.rolesDistinct_iff,
    Classical.not_not, ports]
  simp [mem]

theorem exec_setRoles {s : State} {p : Port} {r : Request} {roles : PerPort PortRole} (hands : s.hands p r 0x31)
    (read : Operands.rolesOf? r.params = some roles) :
    exec (.setRoles p) s = .next (s.afterJudging p r
      [(!(s.portRole p).setup, .noRight), (decide ((s.ports.get p).keyCount = 0), .protectedRequest),
       (!s.quiescent, .notQuiescent), (Settings.rolesConflict roles, .roleConflict)]
      (((s.unqueues p).writeRoles roles).answers p r .accepted [])) := by
  show Host.Outcome.next (s.takeRequest p 0x31 (State.judgeSetRoles p)) = _
  rw [State.takeRequest_of_hands hands, State.judgeSetRoles, read]
  dsimp only
  rw [State.respond_judge, State.protectedChecks, State.not_keyOpen]
  simp only [State.respond_answer, State.unqueues_conditions, State.unqueues_ofPort, State.unqueues_key]
  rfl

/-- Settles O45. -/
theorem setRolesWritesTheRoles : Obligations.SetRolesWritesTheRoles := by
  intro p r s roles hands bytes held
  exact ⟨Settings.rolesConflict roles, Settings.rolesConflict_iff roles,
    exec_setRoles hands (bytes ▸ Operands.rolesOf?_codes roles)⟩

end Sys2Proof.Machine
end

section
/-! PROOFS. The requests on the store: SAVE, RELOAD and RESTART, and the write that completes (R157, R158, R160). -/

namespace Sys2Proof.Machine

/-! ### SAVE (R157) -/

theorem State.respond_unanswered (p : Port) (r : Request) (a : Reply) (later : a.frame = none) (counts : a.key = .useCount) :
    State.respond p r a = a.state.countsKey p := by
  rw [State.respond, later, counts]
  rfl

theorem exec_save {s : State} {p : Port} {r : Request} (hands : s.hands p r 0x33) (bytes : r.params = []) :
    exec (.save p) s = .next (s.afterJudging p r
      [(!(s.portRole p).setup, .noRight), (decide ((s.ports.get p).keyCount = 0), .protectedRequest),
       (s.storeBusy, .storeBusy)]
      (({ s.unqueues p with store := { s.store with save := some ⟨p, r.tag, s.live, 0⟩ } } : State).countsKey p)) := by
  show Host.Outcome.next (s.takeRequest p 0x33 (State.judgeSave p)) = _
  rw [State.takeRequest_of_hands hands, State.judgeSave, bytes]
  dsimp only
  rw [State.respond_judge, State.respond_unanswered p r _ rfl rfl, State.not_keyOpen]
  simp only [State.unqueues_conditions, State.unqueues_ofPort, State.unqueues_key]
  rfl

/-! ### Protected requests on a store that may be busy (R158, R160) -/

/-- The checks of RELOAD and RESTART, in the order of the statements. -/
theorem State.afterJudging_protectedStore (s : State) (p : Port) (r : Request) (accepted : State) :
    s.afterJudging p r ((s.unqueues p).protectedChecks p ++ [((s.unqueues p).storeBusy, .storeBusy)]) accepted =
      s.afterJudging p r
        ([(!(s.portRole p).setup, .noRight), (decide ((s.ports.get p).keyCount = 0), .protectedRequest),
          (s.storeBusy, .storeBusy)] ++ [(!s.quiescent, .notQuiescent)]) accepted := by
  rw [State.protectedChecks, State.not_keyOpen]
  simp only [State.unqueues_conditions, State.unqueues_ofPort, State.unqueues_key]
  refine State.afterJudging_congr (fun c => ?_) s p r accepted
  simp only [List.cons_append, List.nil_append, List.mem_cons, List.not_mem_nil, or_false]
  exact or_congr .rfl (or_congr .rfl or_comm)

/-! ### RELOAD (R158) -/

theorem StoreImage.settings_of_not_valid {i : StoreImage} (other : i.judge ≠ .valid) : i.settings = Settings.defaults := by
  unfold StoreImage.settings
  split
  next valid => exact absurd valid other
  next => rfl

/-- What RELOAD writes and raises, by the judgement of the image. -/
theorem State.reload_eq (s : State) : s.reload =
    match s.store.image.judge with
    | .valid => s.writeSettings s.store.image.settings
    | .blank => (s.writeSettings Settings.defaults).raise .storeBlank
    | .invalid => (s.writeSettings Settings.defaults).raise .storeInvalid := by
  rw [State.reload]
  cases judged : s.store.image.judge with
  | valid => rfl
  | blank => rw [StoreImage.settings_of_not_valid (by simp [judged])]; rfl
  | invalid => rw [StoreImage.settings_of_not_valid (by simp [judged])]; rfl

theorem exec_reload {s : State} {p : Port} {r : Request} (hands : s.hands p r 0x34) (bytes : r.params = []) :
    exec (.reload p) s = .next (s.afterJudging p r
      ([(!(s.portRole p).setup, .noRight), (decide ((s.ports.get p).keyCount = 0), .protectedRequest),
        (s.storeBusy, .storeBusy)] ++ [(!s.quiescent, .notQuiescent)])
      ((s.unqueues p).reload.answers p r .accepted [BitVec.ofNat 8 s.store.image.judge.code])) := by
  show Host.Outcome.next (s.takeRequest p 0x34 (State.judgeReload p)) = _
  rw [State.takeRequest_of_hands hands, State.judgeReload, bytes]
  dsimp only
  rw [State.respond_judge, State.afterJudging_protectedStore, State.respond_answer]
  rfl

/-! ### RESTART (R160) -/

theorem exec_restart {s : State} {p : Port} {r : Request} (hands : s.hands p r 0x35) (bytes : r.params = []) :
    exec (.restart p) s = .next (s.afterJudging p r
      ([(!(s.portRole p).setup, .noRight), (decide ((s.ports.get p).keyCount = 0), .protectedRequest),
        (s.storeBusy, .storeBusy)] ++ [(!s.quiescent, .notQuiescent)])
      ((({ s.unqueues p with restart := some ⟨p, false⟩ } : State).countsKey p).sends p r .restartResponse
        .accepted [])) := by
  show Host.Outcome.next (s.takeRequest p 0x35 (State.judgeRestart p)) = _
  rw [State.takeRequest_of_hands hands, State.judgeRestart, bytes]
  dsimp only
  rw [State.respond_judge, State.afterJudging_protectedStore, State.respond]
  dsimp only [Reply.answer]
  rw [State.sendResponse_eq, State.useKey_eq]

/-! ### SAVE_WRITE_COMPLETE (R157) -/

theorem exec_saveWriteComplete {s : State} {v : SaveInFlight} (running : s.inReset = false)
    (writing : s.store.save = some v) :
    exec .saveWriteComplete s = .next
      (({ s with store := { s.store with image := .ofSettings v.snapshot, save := none } } : State).sends v.port
        ⟨v.tag, 0x33, []⟩ .response .accepted []) := by
  show Host.Outcome.next (if !s.inReset then s.completeSave else s) = _
  rw [running, Bool.not_false, if_pos rfl, State.completeSave, writing]
  dsimp only
  rw [State.sendResponse_eq]

/-- Settles O46. -/
theorem saveReloadRestartAreTaken : Obligations.SaveReloadRestartAreTaken := by
  refine ⟨fun p r s bytes => ⟨fun hands => exec_save hands bytes, fun hands => ?_, fun hands => exec_restart hands bytes⟩,
    fun s v => exec_saveWriteComplete⟩
  rw [exec_reload hands bytes, State.reload_eq]
  rfl

end Sys2Proof.Machine
end

section
/-! PROOFS. What newly written settings do at once (R17, R24, R70, R74, R155, R158). -/

namespace Sys2Proof.Machine

/-! ### The sensor input and the debounce measures (R17, R24, R74) -/

/-- The state once the new settings are written and the sensor input has taken them (R17, R24). -/
def State.newlySensed (s : State) (new : Settings) : State :=
  { s with
    store := { s.store with live := new }
    detector := { s.detector with
      inFlight := if new.edgeMode = s.live.edgeMode ∧ new.sdetPolarity = s.live.sdetPolarity then s.detector.inFlight
        else none
      sdetActive := if new.sdetPolarity = s.live.sdetPolarity then s.detector.sdetActive
        else Level.isActive new.sdetPolarity s.pins.sdet } }

theorem State.newlySensed_eq (s : State) (new : Settings) :
    (({ s with store := { s.store with live := new } } : State).edgeModeEffect s.live).sdetPolarityEffect s.live =
      s.newlySensed new := by
  have live (u : State) (same : u.live = new) : (u.edgeModeEffect s.live).live = new := by
    unfold State.edgeModeEffect
    split <;> exact same
  have mode (u : State) (same : u.live = new) : u.edgeModeEffect s.live =
      { u with detector := { u.detector with
          inFlight := if new.edgeMode = s.live.edgeMode then u.detector.inFlight else none } } := by
    rw [State.edgeModeEffect, same]
    by_cases kept : new.edgeMode = s.live.edgeMode
    · rw [if_pos kept, if_pos kept]
    · rw [if_neg kept, if_neg kept]
      rfl
  unfold State.newlySensed State.sdetPolarityEffect
  rw [live _ rfl, mode _ rfl]
  by_cases polarity : new.sdetPolarity = s.live.sdetPolarity
  · rw [if_pos polarity, if_pos polarity]
    simp only [polarity, and_true]
  · rw [if_neg polarity, if_neg polarity]
    simp only [polarity, and_false, if_false]
    rfl

/-- The debounce measure of lane x once the new polarity is taken (R74). -/
def State.newMeasure (s : State) (new : Settings) (x : Lane) : Option Nat :=
  if new.tdnPolarity.get x = s.live.tdnPolarity.get x then (s.lane x).debounce
  else if Level.isActive (new.tdnPolarity.get x) (s.pins.tdn.get x) = (s.lane x).tdnActive then none
  else some ((s.lane x).debounce.getD 0)

/-- The state once the debounce measures have taken the new polarities too (R74). -/
def State.newlyMeasured (s : State) (new : Settings) : State :=
  { s.newlySensed new with lanes := .ofFn fun x => { s.lane x with debounce := s.newMeasure new x } }

theorem State.tdnPolarityEffect_eq {s u : State} {new : Settings} {x : Lane} (live : u.live = new)
    (pins : u.pins = s.pins) (lane : u.lane x = s.lane x) :
    u.tdnPolarityEffect s.live x =
      { u with lanes := u.lanes.set x { s.lane x with debounce := s.newMeasure new x } } := by
  have line : u.tdnLineActive x = Level.isActive (new.tdnPolarity.get x) (s.pins.tdn.get x) := by
    rw [State.tdnLineActive, live, pins]
  have same : u.lanes.get x = s.lane x := lane
  unfold State.tdnPolarityEffect State.newMeasure
  rw [live]
  split
  next =>
    have kept : u.lanes.set x (u.lane x) = u.lanes := PerLane.ext_get fun y => by
      rw [PerLane.get_set]
      split
      next here => rw [here]; rfl
      next => rfl
    rw [← lane, kept]
  next =>
    rw [State.remeasure, line, State.updateLane, PerLane.modify, same]

theorem State.newlyMeasured_eq (s : State) (new : Settings) :
    Lane.all.foldl (fun u x => u.tdnPolarityEffect s.live x) (s.newlySensed new) = s.newlyMeasured new := by
  simp only [Lane.all, List.foldl_cons, List.foldl_nil]
  rw [State.tdnPolarityEffect_eq (s := s) (new := new) (x := .a), State.tdnPolarityEffect_eq (s := s) (new := new) (x := .b),
    State.tdnPolarityEffect_eq (s := s) (new := new) (x := .c), State.tdnPolarityEffect_eq (s := s) (new := new) (x := .d)]
  all_goals rfl

/-! ### The lanes fitted (R70) -/

/-- Lane x takes the change of its fitting (R70). -/
def State.fit (s : State) (new : Settings) (x : Lane) (u : State) : State :=
  if s.isFitted x = false ∧ new.lanesFitted.get x = true then
    if (s.lane x).tdnActive then
      ((u.setLane x .idle).faultLane x .unpermittedDescent 1).handCause .unpermittedDescent (.lane x) none
    else u.setLane x .idle
  else if s.isFitted x = true ∧ new.lanesFitted.get x = false then u.setLane x .off
  else u

/-- The state that the change of fitting of one lane leaves to the others: the settings, the free value and the TDN
levels. -/
def State.fitsLike (u v : State) : Prop :=
  u.store = v.store ∧ u.freeCount = v.freeCount ∧ ∀ y, (u.lane y).tdnActive = (v.lane y).tdnActive

theorem State.fitsLike_fittedEffect (u : State) (old : Settings) (x : Lane) : (u.fittedEffect old x).fitsLike u := by
  obtain ⟨l, granted, freeze, blocks, -, -⟩ := u.blocks_fittedEffect old x
  refine ⟨?_, ?_, fun y => congrArg (fun b : Blocks => b.tines y) blocks⟩ <;> rw [State.fittedEffect_eq] <;> split
  · split <;> simp
  · split <;> simp
  · split <;> simp
  · split <;> simp

theorem State.fittedEffect_of_fitsLike {s u : State} {new : Settings} (like : u.fitsLike (s.newlyMeasured new)) (x : Lane) :
    u.fittedEffect s.live x = s.fit new x u := by
  obtain ⟨store, -, levels⟩ := like
  have level : (u.lane x).tdnActive = (s.lane x).tdnActive := by
    rw [levels x]
    cases x <;> rfl
  have live : u.live = new := congrArg SettingsStore.live store
  rw [State.fittedEffect_eq, live, level]
  rfl

theorem State.fits_eq (s : State) (new : Settings) :
    Lane.all.foldl (fun u x => u.fittedEffect s.live x) (s.newlyMeasured new) =
        s.fit new .d (s.fit new .c (s.fit new .b (s.fit new .a (s.newlyMeasured new)))) ∧
      (Lane.all.foldl (fun u x => u.fittedEffect s.live x) (s.newlyMeasured new)).fitsLike (s.newlyMeasured new) := by
  have next {u : State} (like : u.fitsLike (s.newlyMeasured new)) (x : Lane) :
      (u.fittedEffect s.live x).fitsLike (s.newlyMeasured new) := by
    obtain ⟨store, count, levels⟩ := u.fitsLike_fittedEffect s.live x
    obtain ⟨store', count', levels'⟩ := like
    exact ⟨store.trans store', count.trans count', fun y => (levels y).trans (levels' y)⟩
  have a : (s.newlyMeasured new).fitsLike (s.newlyMeasured new) := ⟨rfl, rfl, fun _ => rfl⟩
  have b := next a .a
  have c := next b .b
  have d := next c .c
  refine ⟨?_, next d .d⟩
  simp only [Lane.all, List.foldl_cons, List.foldl_nil]
  rw [State.fittedEffect_of_fitsLike d, State.fittedEffect_of_fitsLike c, State.fittedEffect_of_fitsLike b,
    State.fittedEffect_of_fitsLike a]

/-! ### The timers that expire at once (R74, R76, R99, R101, R137; log 14) -/

theorem State.expireAtOnce_eq (s : State) (old : Settings) :
    ∃ order : List Instr, order.Perm (s.dueAtOnce old) ∧
      s.expireAtOnce old = order.foldl State.runExpiry
        { s with freeCount := if 2 ≤ order.length then s.freeCount + 1 else s.freeCount } := by
  have order := s.freeOrder_perm (s.nodup_dueAtOnce old)
  refine ⟨_, order, ?_⟩
  rw [State.expireAtOnce, s.countAfter_eq order]

theorem State.writeSettings_eq_expireAtOnce (s : State) (new : Settings) :
    s.writeSettings new =
      (s.fit new .d (s.fit new .c (s.fit new .b (s.fit new .a (s.newlyMeasured new))))).expireAtOnce s.live := by
  rw [State.writeSettings_eq, State.settingsEffect]
  dsimp only
  rw [State.newlySensed_eq, State.newlyMeasured_eq, (s.fits_eq new).1]

theorem exec_of_timerDue {s : State} {c : Instr} (running : s.inReset = false) (due : s.timerDue c)
    (other : ∀ p, c ≠ .statusTimerExpiry p) : exec c s = .next (s.runExpiry c).settle := by
  have reached := (s.reaches_iff c).2 due
  have acts : (!s.inReset && s.reaches c) = true := by rw [running, reached]; rfl
  unfold State.runExpiry
  rw [if_pos reached]
  unfold State.timerDue at due
  split at due
  case h_7 p => exact absurd rfl (other p)
  case h_8 => exact due.elim
  all_goals exact congrArg Host.Outcome.next (if_pos acts)

/-- Settles O44. -/
theorem settingsTakeEffect : Obligations.SettingsTakeEffect := by
  refine ⟨?_, fun s c running due other => exec_of_timerDue running due other⟩
  intro s new senses measure measures enters fit fits atOnce
  obtain ⟨fitted, store, count, -⟩ := s.fits_eq new
  have live : fits.live = new := by
    show (s.fit new .d (s.fit new .c (s.fit new .b (s.fit new .a (s.newlyMeasured new))))).live = new
    rw [← fitted, State.live, store]
    rfl
  have free : fits.freeCount = s.freeCount := by
    show (s.fit new .d (s.fit new .c (s.fit new .b (s.fit new .a (s.newlyMeasured new))))).freeCount = s.freeCount
    rw [← fitted, count]
    rfl
  obtain ⟨order, perm, expired⟩ := fits.expireAtOnce_eq s.live
  refine ⟨order, perm.nodup_iff.2 (fits.nodup_dueAtOnce s.live), fun c => ?_, ?_⟩
  · have limits := fits.mem_dueAtOnce s.live c
    rw [live] at limits
    exact perm.mem_iff.trans limits
  · rw [← free]
    exact (s.writeSettings_eq_expireAtOnce new).trans expired

end Sys2Proof.Machine
end

section
/-! PROOFS. The held reset, the full reset and the restart (R143, R157, R159, R160). -/

namespace Sys2Proof.Machine

/-! ### The output lines of a part that is held or FROZEN (R72, R112, R124) -/

/-- In a held reset, and in FROZEN, the output lines have their reset levels. -/
theorem State.settle_of_stopped {s : State} (stopped : s.pins.rstn = .low ∨ s.freeze.state = .frozen) :
    s.settle = { s with pins := { s.pins with dpm := .replicate false, movok := false, frzout := true } } := by
  have refused : ¬ (s.pins.rstn = .high ∧ s.freeze.state = .run) := by
    rintro ⟨released, run⟩
    rcases stopped with held | frozen
    · rw [released] at held; cases held
    · rw [run] at frozen; cases frozen
  have dpm (x : Lane) : s.dpmLevel x = false := by
    rw [← Bool.not_eq_true, State.dpmLevel_eq_true]
    rintro ⟨released, run, -⟩
    exact refused ⟨released, run⟩
  have movok : s.movokLevel = false := by
    rw [← Bool.not_eq_true, State.movokLevel_eq_true]
    rintro ⟨released, run, -⟩
    exact refused ⟨released, run⟩
  rw [State.settle, movok, s.frzoutLevel_eq_true.2 stopped, funext dpm]
  rfl

/-! ### Commands while RSTN is held (R159) -/

/-- The states that differ in the levels of the input lines alone. -/
def State.senses (s t : State) : Prop :=
  ∃ (odb sdet frzin : Level) (tdn : PerLane Level),
    t = { s with pins := { s.pins with odb := odb, sdet := sdet, tdn := tdn, frzin := frzin } }

theorem State.senses_refl (s : State) : s.senses s :=
  ⟨s.pins.odb, s.pins.sdet, s.pins.frzin, s.pins.tdn, rfl⟩

theorem State.front?_of_reset {s : State} (held : s.inReset = true) (p : Port) (isCode : Byte → Bool) :
    s.front? p isCode = none :=
  State.front?_eq_none (.inl (by rw [State.mayTake, held]; rfl))

/-- No request is taken. -/
theorem exec_request_of_reset {s : State} (held : s.inReset = true) {c : Instr} {p : Port}
    (sender : Flags.requestPort? c = some p) : exec c s = .next s := by
  have waits (q : Port) (code : Byte) (judge : State → Request → Reply) : s.takeRequest q code judge = s :=
    State.takeRequest_of_none (State.front?_of_reset held q _)
  unfold Flags.requestPort? at sender
  split at sender <;> cases sender
  case h_1 =>
    show execUnknownCode p s = _
    rw [execUnknownCode, State.front?_of_reset held]
  case h_37 =>
    show Host.Outcome.next (s.takeRequest p 0x37 (State.judgeAxisPreset p)).offerMade = _
    rw [waits, State.offerMade_of_reset held]
  all_goals exact congrArg Host.Outcome.next (waits p _ _)

/-- An edge of SDET changes the level alone. -/
theorem State.sdetEdge_of_reset {s : State} (held : s.inReset = true) (active : Bool) :
    s.senses (s.sdetEdge active).takeChange := by
  have still : (s.sdetEdge active).inReset = true := (s.sdetEdge_keeps active).2.trans held
  rw [State.takeChange_of_reset still]
  rcases s.sdetEdge_cases active with same | ⟨level, ⟨-, changed⟩ | ⟨released, -⟩⟩
  · rw [same]
    exact s.senses_refl
  · rw [changed]
    exact ⟨s.pins.odb, level, s.pins.frzin, s.pins.tdn, rfl⟩
  · rw [held] at released
    cases released

theorem exec_of_reset {s : State} (held : s.inReset = true) {c : Instr} (other : c ≠ .fullReset) :
    ∃ t, exec c s = .next t ∧ s.senses t := by
  have waits {a : Bool} {u : State} : (if !s.inReset && a then u else s) = s := by
    rw [held, Bool.not_true, Bool.false_and, if_neg (by decide)]
  have stays {u : State} : (if s.inReset then s else u) = s := if_pos held
  cases sender : Flags.requestPort? c with
  | some p => exact ⟨s, exec_request_of_reset held sender, s.senses_refl⟩
  | none =>
    cases c with
    | pulse odb =>
      exact ⟨_, congrArg Host.Outcome.next (if_pos held), odb, s.pins.sdet, s.pins.frzin, s.pins.tdn, rfl⟩
    | activeEdge => exact ⟨_, rfl, State.sdetEdge_of_reset held true⟩
    | inactiveEdge => exact ⟨_, rfl, State.sdetEdge_of_reset held false⟩
    | tdnLineChange x level =>
      show ∃ t, execTdnLineChange x level s = .next t ∧ _
      unfold execTdnLineChange
      split
      next => exact ⟨s, rfl, s.senses_refl⟩
      next =>
        exact ⟨_, congrArg Host.Outcome.next (if_pos held), s.pins.odb, s.pins.sdet, s.pins.frzin, s.pins.tdn.set x level, rfl⟩
    | frzinAssertion =>
      show ∃ t, execFrzinAssertion s = .next t ∧ _
      unfold execFrzinAssertion
      split
      next => exact ⟨s, rfl, s.senses_refl⟩
      next => exact ⟨_, congrArg Host.Outcome.next (if_pos held), s.pins.odb, s.pins.sdet, .low, s.pins.tdn, rfl⟩
    | frzinRelease => exact ⟨_, rfl, s.pins.odb, s.pins.sdet, .high, s.pins.tdn, rfl⟩
    | fullReset => exact absurd rfl other
    | assertion x => exact ⟨s, congrArg Host.Outcome.next waits, s.senses_refl⟩
    | release x => exact ⟨s, congrArg Host.Outcome.next waits, s.senses_refl⟩
    | downTimerExpiry x => exact ⟨s, congrArg Host.Outcome.next waits, s.senses_refl⟩
    | liftTimerExpiry => exact ⟨s, congrArg Host.Outcome.next waits, s.senses_refl⟩
    | overdueTimerExpiry => exact ⟨s, congrArg Host.Outcome.next waits, s.senses_refl⟩
    | presenceTimerExpiry p => exact ⟨s, congrArg Host.Outcome.next waits, s.senses_refl⟩
    | statusTimerExpiry p => exact ⟨s, congrArg Host.Outcome.next waits, s.senses_refl⟩
    | validFrame p body => exact ⟨s, congrArg Host.Outcome.next stays, s.senses_refl⟩
    | discardedFrame p bytes => exact ⟨s, congrArg Host.Outcome.next stays, s.senses_refl⟩
    | rstnAssertion => exact ⟨s, congrArg Host.Outcome.next stays, s.senses_refl⟩
    | saveWriteComplete =>
      refine ⟨s, ?_, s.senses_refl⟩
      show Host.Outcome.next (if !s.inReset then s.completeSave else s) = _
      rw [held, Bool.not_true, if_neg (by decide)]
    | restartTakesEffect =>
      refine ⟨s, ?_, s.senses_refl⟩
      show execRestartTakesEffect s = _
      rw [execRestartTakesEffect, State.restartReady?, if_pos held]
    | frameSent p =>
      refine ⟨s, ?_, s.senses_refl⟩
      show execFrameSent p s = _
      rw [execFrameSent, held]
    | _ => cases sender

/-! ### RSTN_ASSERTION (R143, R157, R159) -/

theorem State.stopWrite_eq (s : State) : s.stopWrite =
    { s with store := { s.store with
        save := none, image := if s.store.save.isSome then .torn else s.store.image } } := by
  obtain ⟨axis, detector, list, passages, lanes, hold, motion, freeze, ports, restart, events, store, pins, count, pending⟩ := s
  obtain ⟨live, image, save, rate⟩ := store
  cases save <;> rfl

/-- Settles O48. -/
theorem rstnHoldsThePart : Obligations.RstnHoldsThePart := by
  refine ⟨fun c s held other => ?_, fun s released => ⟨if s.store.save.isSome then .torn else s.store.image, ?_, ?_, ?_⟩⟩
  · obtain ⟨t, taken, odb, sdet, frzin, tdn, rfl⟩ := exec_of_reset held other
    exact ⟨odb, sdet, frzin, tdn, taken⟩
  · show Host.Outcome.next (if s.inReset then s else s.holdReset.settle) = _
    rw [if_neg (by rw [s.inReset_eq_false.2 released]; decide), State.holdReset, State.stopWrite_eq,
      State.settle_of_stopped (.inl rfl)]
    rfl
  · intro idle
    rw [idle]
    rfl
  · intro writing
    rw [if_pos (Option.isSome_iff_ne_none.2 writing)]
    rfl

end Sys2Proof.Machine
end

section
/-! PROOFS. What a full reset and a restart leave: the reset values of every block (R143, R158, R159, R160). -/

namespace Sys2Proof.Machine

/-! ### The samples of the lines (R32, R93, R127) -/

theorem State.handCause_of_frozen {s : State} (frozen : s.freeze.state = .frozen) (cause : FreezeCause)
    (source : FreezeSource) (seq : Option SeqNo) : s.handCause cause source seq =
      { s with freeze := { s.freeze with further := min (s.freeze.further + 1) 15, lastFurther := some cause } } := by
  unfold State.handCause
  rw [frozen]

/-- The freeze record once FRZIN has been sampled in FROZEN (R127). -/
def FreezeUnit.sampled (v : FreezeUnit) (active : Bool) : FreezeUnit :=
  if active then { v with further := min (v.further + 1) 15, lastFurther := some .line } else v

/-- The debounce measure that a lane starts from its line (R93). -/
def LaneController.measured (l : LaneController) (line : Bool) : LaneController :=
  { l with debounce := if line = l.tdnActive then none else some (l.debounce.getD 0) }

theorem State.sampleLines_eq {s : State} (frozen : s.freeze.state = .frozen) : s.sampleLines =
    { s with
      detector := { s.detector with sdetActive := s.sdetLineActive }
      freeze := s.freeze.sampled s.frzinActive
      lanes := .ofFn fun x => (s.lane x).measured (s.tdnLineActive x) } := by
  unfold State.sampleLines
  dsimp only
  rw [State.handCause_of_frozen (by exact frozen)]
  cases active : s.frzinActive with
  | false => rw [if_neg (by exact Bool.not_eq_true _ ▸ active)]; rfl
  | true => rw [if_pos (by exact active)]; rfl

/-! ### The reset values -/

/-- What a reset leaves of a FROZEN part after its blocks have their reset values: STARTED latched, the lines sampled, the
output lines at their levels (R159 step 5). -/
theorem State.settle_started {s : State} (frozen : s.freeze.state = .frozen) : s.started.settle =
    { s with
      events := (s.raise .started).events
      detector := { s.detector with sdetActive := s.sdetLineActive }
      freeze := s.freeze.sampled s.frzinActive
      lanes := .ofFn fun x => (s.lane x).measured (s.tdnLineActive x)
      pins := { s.pins with dpm := .replicate false, movok := false, frzout := true } } := by
  rw [State.started, State.sampleLines_eq (by exact frozen), State.settle_of_stopped]
  · rfl
  · right
    show ((s.raise .started).freeze.sampled _).state = .frozen
    unfold FreezeUnit.sampled
    split <;> exact frozen

theorem State.raise?_eq (s : State) (e : Option Event) : s.raise? e = { s with events := (s.raise? e).events } := by
  cases e <;> rfl

/-- The set that the judgement of the image raises in a port with SETUP (R158). -/
def ImageState.raised : ImageState → BitVec 24
  | .valid => 0
  | .blank => BitVec.twoPow 24 21
  | .invalid => BitVec.twoPow 24 22

/-- The events that a reset latches for a port: STARTED, and what the store raised for the ports with SETUP. -/
theorem State.started_events {s : State} {v : EventPort} (fresh : s.events = .replicate v) (judged : ImageState) (p : Port) :
    ((s.raise? judged.event?).raise .started).events.get p =
      { v with latched := v.latched |||
          ((if (s.portRole p).setup then judged.raised else 0) ||| BitVec.twoPow 24 23) } := by
  have empty : s.events.get p = v := by
    rw [fresh]
    cases p <;> rfl
  have started (u : State) : (u.raise .started).events.get p = (u.events.get p).latch .started := by
    rw [State.raise_events]
    rfl
  have store (e : Event) (targets : e.targets p (s.portRole p) = (s.portRole p).setup) :
      (s.raise e).events.get p = { v with latched := v.latched ||| (if (s.portRole p).setup then e.bit else 0) } := by
    rw [State.raise_events, targets, empty]
    split
    · rfl
    · simp
  rw [started]
  cases judged with
  | valid =>
    show (s.events.get p).latch .started = _
    rw [empty]
    simp [EventPort.latch, Event.bit, Event.number, ImageState.raised]
  | blank =>
    show ((s.raise .storeBlank).events.get p).latch .started = _
    rw [store .storeBlank rfl]
    simp [EventPort.latch, Event.bit, Event.number, ImageState.raised, BitVec.or_assoc]
  | invalid =>
    show ((s.raise .storeInvalid).events.get p).latch .started = _
    rw [store .storeInvalid rfl]
    simp [EventPort.latch, Event.bit, Event.number, ImageState.raised, BitVec.or_assoc]

theorem FreezeUnit.sampled_fresh (cause : FreezeCause) (source : FreezeSource) (active : Bool) :
    (FreezeUnit.mk .frozen cause source 0 none 0 none).sampled active =
      ⟨.frozen, cause, source, 0, none, if active then 1 else 0, if active then some .line else none⟩ := by
  cases active <;> rfl

/-- A lane at its reset values, once its line has been sampled (R68, R93). -/
theorem State.resetLane_measured (s : State) (x : Lane) (line : Bool) :
    (s.resetLane x).measured line =
      ⟨if s.isFitted x then .idle else .off, false, if line then some 0 else none, none, 0⟩ := by
  cases line <;> rfl

/-- The part as any reset leaves it under the settings of s (R159 steps 3 to 5, R160). -/
def State.restored (s : State) (ports : PerPort PortState) (cause : FreezeCause) (source : FreezeSource)
    (events : PerPort EventPort) : State :=
  { s with
    axis := ⟨0, 0, .forward⟩
    detector := ⟨s.sdetLineActive, none, none, 0, 0⟩
    list := ⟨[], 1, false, 0, 0, 0, false⟩
    passages := ⟨[], 0, 0⟩
    lanes := .ofFn fun x =>
      ⟨if s.isFitted x then .idle else .off, false, if s.tdnLineActive x then some 0 else none, none, 0⟩
    hold := .free
    motion := ⟨.halt, 0⟩
    freeze := ⟨.frozen, cause, source, 0, none, if s.frzinActive then 1 else 0,
      if s.frzinActive then some .line else none⟩
    ports := ports
    restart := none
    events := events
    store := { s.store with save := none }
    pins := { s.pins with dpm := .replicate false, movok := false, frzout := true } }

theorem State.settle_started_resetBlocks (s : State) (ports : PerPort PortState) (cause : FreezeCause)
    (source : FreezeSource) (event : Option Event) :
    ((s.resetBlocks ports cause source).raise? event).started.settle = s.restored ports cause source
      (((s.resetBlocks ports cause source).raise? event).raise .started).events := by
  rw [State.raise?_eq]
  generalize ((s.resetBlocks ports cause source).raise? event).events = latched
  rw [State.settle_started rfl]
  unfold State.restored
  congr 1
  · refine congrArg PerLane.ofFn (funext fun x => ?_)
    rw [← State.resetLane_measured]
    exact congrArg (fun l : LaneController => l.measured (s.tdnLineActive x)) (PerLane.get_ofFn s.resetLane x)
  · exact FreezeUnit.sampled_fresh cause source s.frzinActive

theorem State.restored_lane (s : State) (ports : PerPort PortState) (cause : FreezeCause) (source : FreezeSource)
    (events : PerPort EventPort) (x : Lane) : (s.restored ports cause source events).lane x =
      ⟨if s.isFitted x then .idle else .off, false, if s.tdnLineActive x then some 0 else none, none, 0⟩ :=
  PerLane.get_ofFn _ x

/-- Settles O50. -/
theorem restartLeavesTheResetValues : Obligations.RestartLeavesTheResetValues := by
  intro s p released pending
  refine ⟨s.restored (s.ports.map PortState.restarted) .restart (.port p)
    ((s.resetBlocks (s.ports.map PortState.restarted) .restart (.port p)).raise .started).events, ?_, ?_⟩
  · have ready : s.restartReady? = some ⟨p, true⟩ := by
      rw [State.restartReady?, released, if_neg (by decide), pending]
      rfl
    show execRestartTakesEffect s = _
    rw [execRestartTakesEffect, ready]
    exact congrArg Host.Outcome.next (s.settle_started_resetBlocks _ .restart (.port p) none)
  · intro active
    refine ⟨rfl, rfl, rfl, rfl, State.restored_lane s _ _ _ _, rfl, rfl, rfl, fun i => ?_, rfl, fun i => ?_, rfl, rfl, rfl,
      rfl⟩
    · exact PerPort.get_map PortState.restarted s.ports i
    · refine (State.started_events (s := s.resetBlocks _ _ _) rfl .valid i).trans ?_
      simp [State.resetEvents, ImageState.raised]

/-! ### The full reset (R158, R159) -/

/-- The image as a full reset finds it: a write in flight has left it invalid (R157). -/
def State.imageAtReset (s : State) : StoreImage := if s.store.save.isSome then .torn else s.store.image

/-- The state whose settings a full reset has loaded, with RSTN released (R159 steps 1 and 2). -/
def State.loaded (s : State) : State :=
  { s with
    pins := { s.pins with rstn := .high }
    store := ⟨s.imageAtReset.settings, s.imageAtReset, none, s.imageAtReset.settings.linkRate⟩ }

theorem State.fullReset_eq (s : State) : s.fullReset =
    ((s.loaded.resetBlocks (.replicate PortState.reset) .start .nowhere).raise? s.imageAtReset.judge.event?).started := by
  rw [State.fullReset, State.stopWrite_eq]
  rfl

/-- Settles O49. -/
theorem fullResetLeavesTheResetValues : Obligations.FullResetLeavesTheResetValues := by
  intro s
  refine ⟨s.loaded.restored (.replicate PortState.reset) .start .nowhere
    (((s.loaded.resetBlocks (.replicate PortState.reset) .start .nowhere).raise? s.imageAtReset.judge.event?).raise
      .started).events, ?_, ?_⟩
  · show Host.Outcome.next s.fullReset.settle = _
    rw [State.fullReset_eq, State.settle_started_resetBlocks]
  · intro stopped image live active
    refine ⟨rfl, rfl, rfl, rfl, State.restored_lane s.loaded _ _ _ _, rfl, rfl, rfl, fun p => ?_, rfl, fun p => ?_, rfl, rfl,
      rfl, rfl⟩
    · cases p <;> rfl
    · refine (State.started_events (s := s.loaded.resetBlocks _ _ _) rfl s.imageAtReset.judge p).trans ?_
      rw [BitVec.or_comm _ (BitVec.twoPow 24 23)]
      simp only [State.resetEvents, BitVec.ofNat_eq_ofNat, BitVec.zero_or]
      rfl

end Sys2Proof.Machine
end
